-- ==== Sys2Proof/Word.lean ====
section
/-! DEFINITION. The word and the byte of the part (00_scope.md 0.5: "A word is 4 bytes"). -/

namespace Sys2Proof

/-- One byte. -/
abbrev Byte := BitVec 8

/-- One word: 32 bits, bit 31 the most significant (12, opening). -/
abbrev Word := BitVec 32

end Sys2Proof
end

