-- ==== Sys2Proof/Syntax.lean ====
section
/-! DEFINITION. The commands of the part: one constructor of Instr for each row of spec/opcode_table.json. -/

namespace Sys2Proof

/-- The marker that closes a burst at an ingress port (R2). -/
inductive Marker where
  | endMarker
  | startMarker
deriving DecidableEq, Repr

/-- A burst as an ingress port has received it when the closing marker arrives: the words between the markers,
header first, and the marker. `ignored` is set when the start marker came while the port was disabled or the part in reset,
or the port was disabled or the part reset since then (R13, R18): such a burst is ignored to its end (log entry 7). -/
structure Reception where
  words : List Word
  closedBy : Marker
  ignored : Bool
deriving DecidableEq, Repr

/-- One block's work at a tick (R20), as named in the order in which a tick command takes them.
Counts not named come before the works named and slots not named after them, each in turn; judgements and the generator's frame
start not named are left to rows of their own (log entry 5: the rules let either order be taken, R47, R59, R74, R107). -/
inductive TickWork where
  /-- The window tick count of a stream (R47). -/
  | count (stream : Fin 32)
  /-- The activity judgement of a stream (R47). -/
  | judge (stream : Fin 32)
  /-- The work of a slot (R87). -/
  | slot (slot : Fin 16)
  /-- The generator's frame start (R157). -/
  | generator
deriving DecidableEq, Repr

/-- The commands. A request has no operand here: its operands are in the record at the head of the request queue (R177, R179;
log entry 6). -/
inductive Instr where
  /-- Power-on reset (R186). Operands: the strap MEMSZ (R131); the arbitrary content of frame memory, as its cells and its bits in error. -/
  | powerOnReset (memsz : BitVec 2) (cells : List Host.Cell) (badBits : List Nat)
  /-- RST_N rises (R186). Operand: the strap MEMSZ. -/
  | pinReset (memsz : BitVec 2)
  /-- An ingress port judges a complete burst (R5). -/
  | ingressBurstJudged (port : Fin 4) (reception : Reception)
  /-- The free dispatcher takes a burst (R8). -/
  | dispatchBurst
  /-- The waiting dispatcher decides again (R11). -/
  | waitingBurstAccepted
  /-- The arbiter grants (R135). -/
  | memoryGrant
  /-- The head write completes (R133). -/
  | writeCompletion
  /-- A slot read completes (R116). -/
  | slotReadCompletion
  /-- A management access completes (R139, R140). -/
  | managementAccessCompletion
  /-- A refresh completes (R137). -/
  | refreshCompletion
  /-- The refresh timer expires (R137). -/
  | refreshTimerExpiry
  /-- A rising edge of REF (R19, R23, R26). -/
  | refEdge (order : List TickWork)
  /-- c reaches P in FREE (R22). -/
  | freePeriodExpiry (order : List TickWork)
  /-- c reaches P + T in TRACKING or COASTING (R24). -/
  | windowClose (order : List TickWork)
  /-- c reaches P in SEARCHING (R25). -/
  | searchingFlywheel (order : List TickWork)
  /-- A LOCKED stream is judged for activity (R47). -/
  | activityJudgement (stream : Fin 32)
  /-- A measuring stream's interval counter has reached FFFFFFh (R42). -/
  | intervalOverflow (stream : Fin 32)
  /-- A HOLDING slot's hold timer has run out (R98). -/
  | holdExpired (slot : Fin 16)
  /-- The generator starts a frame (R157). -/
  | generatorFrameStart
  /-- The generator's waiting burst is taken (R158). -/
  | generatorBurstTaken
  /-- An IDLE egress port grants (R15). -/
  | egressGrant (port : Fin 4)
  /-- An egress port has sent an end marker (R16). -/
  | egressBurstCompletion (port : Fin 4)
  /-- The waiting executor queues its reply (R182). -/
  | replySpaceFreed
  | readIdentity
  | resetPart
  | readPorts
  | writePorts
  | readStreamEntry
  | writeStreamEntry
  | enableStream
  | disableStream
  | readStreamStatus
  | readRingStatus
  | readRouteEntry
  | writeRouteEntry
  | readSlotStatus
  | readReference
  | setReference
  | readArbitration
  | setArbitration
  | memoryRead
  | memoryWrite
  | snapshotCounters
  | readCounters
  | setCounterMode
  | readEvent
  | readEventState
  | clearEvents
  | writeEventMask
  | readFaultRecord
  | clearFaults
  | generatorStart
  | generatorStop
  | checkerSetup
  | checkerSnapshot
  | readTestStatus
  /-- RST_N goes low (R186). -/
  | pinResetBegin
  /-- A request that fails a form check (R178). -/
  | badRequest
deriving DecidableEq, Repr

end Sys2Proof
end

