-- ==== Sys2Proof/Decode.lean ====
section
/-! DEFINITION. The commands that a word spells by the opcode table's bits. -/

namespace Sys2Proof

/-- No row of spec/opcode_table.json gives bits (every row's field list is empty), so no word spells a command. -/
def decodeTableWord (_nbits _w : Nat) : Option Instr := none

end Sys2Proof
end

