-- ==== Sys2Proof/Config.lean ====
section
/-! DEFINITION. What the spec fixes for every part of this type, and the free values: what the spec leaves open.
A free value is an opaque constant with no body: nothing can be proved about which value it has. -/

namespace Sys2Proof.Config

/-- What a byte of frame memory reads as while the list of cells names no value for it.
DESIGN CHOICE (log entry 10, unsafe): R131 calls the content after power-on arbitrary; POWER_ON_RESET carries any content as its operand. -/
def unlistedByte : Byte := 0

/-- R132: the write queue holds up to 16 entries. -/
def writeQueueSize : Nat := 16

/-- R132: the write queue is urgent while it holds 12 or more entries. -/
def writeQueueUrgent : Nat := 12

/-- R7: an ingress FIFO holds up to eight bursts. -/
def ingressFifoSize : Nat := 8

/-- R112: a slot FIFO's fill lies from 0 to 8. -/
def slotFifoSize : Nat := 8

/-- R177: the request queue holds up to four requests. -/
def requestQueueSize : Nat := 4

/-- R182: the reply queue holds up to four replies. -/
def replyQueueSize : Nat := 4

/-- R137: refresh owed is at most 8. -/
def refreshOwedMax : Nat := 8

/-- R42: the interval counter stops at FFFFFFh. -/
def intervalMax : Nat := 0xFFFFFF

/-- R131: the sizes in blocks that the strap MEMSZ chooses. -/
def blocksOfStrap (memsz : BitVec 2) : Nat :=
  if memsz = 0#2 then 65536 else if memsz = 1#2 then 262144 else 1048576

/-- Free value (log entry 12): how a memory word with three or more of its 72 bits in error is judged.
R138 speaks of one bit (corrected) and two bits (uncorrectable) only: 0 good, 1 corrected, 2 uncorrectable. -/
opaque multiBitVerdict (badBits : List Nat) : Fin 3

/-- Free value (log entry 12): what such a memory word delivers for the word at the address given, stored as given. -/
opaque multiBitWord (address : Nat) (badBits : List Nat) (stored : Word) : Word

/-- Free value (log entry 14): whether the memory word given had landed when a reset abandoned a write (R143). -/
opaque abandonedLanded (draw : Nat) (memoryWord : Nat) : Bool

/-- Free value (log entry 14): the bits, among the 72 of the memory word, that an abandoned merge turns over (R143). They take effect only
where the word then reads as corrected or uncorrectable (`FrameMemory.disturb`). -/
opaque abandonedBits (draw : Nat) (memoryWord : Nat) : List Nat

/-- Free value (log entry 15): how WriteStreamEntry stores a gap check operand that is neither 0 nor 1.
R35 has no check for that field, and 12.5 gives codes for 0 and 1 only. -/
opaque gapCheckOf (operand : Word) : Bool

end Sys2Proof.Config
end

