-- ==== Sys2Proof/Machine/State.lean ====
section
/-! DEFINITION. The state of the part as plain data, the reasons a step can stop, and the state after reset. -/

namespace Sys2Proof.Machine

/-! ## Ports and bursts (01) -/

/-- R3: the order in which the bits of a word are fed to the check word. -/
inductive BitOrder where
  | lsbFirst
  | msbFirst
deriving DecidableEq, Repr

/-- R1: the seven kinds of burst. -/
inductive BurstKind where
  | startBurst
  | bodyBurst
  | endBurst
  | singleBurst
  | abortBurst
  | requestBurst
  | replyBurst
deriving DecidableEq, Repr

/-- R1: a burst as a record. The payload length is the length of `payload`; the check word is kept with a burst in transmission. -/
structure Burst where
  tag : BitVec 6
  kind : BurstKind
  repeatFlag : Bool
  substFlag : Bool
  mediaErrFlag : Bool
  index : Nat
  frameNumber : BitVec 16
  payload : List Word
deriving DecidableEq, Repr

/-- How an ingress port judges a burst: framing, then check word, then header (R5). -/
inductive BurstJudgement where
  | framingError
  | checkError
  | headerError
  | good (b : Burst)
deriving DecidableEq, Repr

/-- R7, 1.6: an ingress port's settings and its FIFO, oldest burst first. -/
structure IngressPort where
  enabled : Bool
  permission : Bool
  bitOrder : BitOrder
  fifo : List Burst
deriving DecidableEq, Repr

/-- R8, R11: the dispatcher's pointer, and the port with whose head burst it waits. -/
structure Dispatcher where
  pointer : Fin 4
  waiting : Option (Fin 4)
deriving DecidableEq, Repr

/-- R14, R15: what a granted burst comes from. -/
inductive Participant where
  /-- An entry of the slot's FIFO. -/
  | slotEntry (slot : Fin 16)
  /-- An abort record of the slot. -/
  | slotAbort (slot : Fin 16)
  /-- The head of the reply queue. -/
  | reply
deriving DecidableEq, Repr

/-- R16: the burst in transmission, with the bit order fixed for it (R4) and its check word (R3). -/
structure Sending where
  participant : Participant
  bitOrder : BitOrder
  burst : Burst
  checkWord : Word
deriving DecidableEq, Repr

/-- R15 to R17, 1.6: an egress port. IDLE when `sending` is absent. Pointer positions 0 to 15 are the slots, 16 the reply queue. -/
structure EgressPort where
  enabled : Bool
  bitOrder : BitOrder
  pointer : Fin 17
  sending : Option Sending
deriving DecidableEq, Repr

/-! ## Reference unit (02) -/

inductive RefMode where
  | free
  | follow
deriving DecidableEq, Repr

inductive RefState where
  | free
  | tracking
  | coasting
  | searching
deriving DecidableEq, Repr

/-- P, T, M and K (R21). -/
structure RefParams where
  period : Nat
  tolerance : Nat
  lossCount : Nat
  regainCount : Nat
deriving DecidableEq, Repr

/-- R21: the state of the reference unit. -/
structure Reference where
  mode : RefMode
  state : RefState
  params : RefParams
  pendingParams : Option RefParams
  periodCounter : Nat
  edgeCounter : Option Nat
  missedRun : Nat
  goodRun : Nat
  tickNumber : BitVec 32
deriving DecidableEq, Repr

/-! ## Streams (03) -/

inductive StreamSource where
  | ingress (port : Fin 4)
  | generator
deriving DecidableEq, Repr

inductive WordOrder where
  | normal
  | swapped
deriving DecidableEq, Repr

/-- R34: the fields of a stream entry. -/
structure StreamFields where
  source : StreamSource
  regionBase : Nat
  bufferSize : Nat
  ringLength : Nat
  expectedBursts : Nat
  wordOrder : WordOrder
  windowMin : Nat
  windowMax : Nat
  lockCount : Nat
  cadenceLimit : Nat
  activityWindow : Nat
  activityThreshold : Nat
  gapCheck : Bool
deriving DecidableEq, Repr

/-- R34, R37: a stream entry as stored, with its parity. -/
structure StreamEntry where
  fields : StreamFields
  parityGood : Bool
deriving DecidableEq, Repr

inductive StreamState where
  | off
  | acquiring
  | locked
  | lost
  | closing
deriving DecidableEq, Repr

inductive RateClass where
  | fast
  | matched
  | slow
deriving DecidableEq, Repr

/-- R38: a stream context. The last two are the model's own (log entry 5): `overflowDue` says that the counter has reached FFFFFFh
and the row INTERVAL_OVERFLOW is still to come, `activityDue` that a tick has found the window full and its judgement is still to
come (R47). -/
structure StreamContext where
  state : StreamState
  intervalCounter : Nat
  measuring : Bool
  lastInterval : Option Nat
  intervalMin : Option Nat
  intervalMax : Option Nat
  rateClass : Option RateClass
  lockProgress : Nat
  cadenceRun : Nat
  windowTicks : Nat
  windowFrames : Nat
  lastFrameNumber : Option (BitVec 16)
  sequenceCounter : BitVec 32
  fillTagCounter : BitVec 8
  writesOutstanding : Nat
  refusing : Bool
  overflowDue : Bool
  activityDue : Bool
deriving DecidableEq, Repr

/-! ## Frame rings (04) -/

inductive BufferState where
  | empty
  | filling
  | sealing
  | ready
  | shown
deriving DecidableEq, Repr

/-- R56: a buffer record. -/
structure Buffer where
  state : BufferState
  fillTag : BitVec 8
  sourceFrame : Option (BitVec 16)
  nextIndex : Option Nat
  lastWords : Option Nat
  burstCount : Option Nat
  sequence : Option (BitVec 32)
  stamp : Option (BitVec 32)
  holdCount : Nat
  mediaError : Bool
deriving DecidableEq, Repr

/-! ## Slots and routes (05) -/

inductive SubstKind where
  | fill
  | ramp
  | blank
deriving DecidableEq, Repr

/-- R83: the fields of a route entry. -/
structure RouteFields where
  enabled : Bool
  stream : Fin 32
  delay : Nat
  holdLimit : Nat
  substKind : SubstKind
  fillWord : Word
  fillLength : Nat
  egressPort : Fin 4
  outputTag : BitVec 6
deriving DecidableEq, Repr

/-- A route entry as stored, with its parity (R83). -/
structure RouteEntry where
  fields : RouteFields
  parityGood : Bool
deriving DecidableEq, Repr

/-- R83: a slot's active entry and its pending entry. -/
structure Route where
  active : RouteEntry
  pending : Option RouteEntry
deriving DecidableEq, Repr

inductive SlotState where
  | off
  | run
  | holding
  | subst
deriving DecidableEq, Repr

/-- R100: the cause of a substitute. -/
inductive SubstCause where
  | noFrame
  | holdExpired
  | streamOff
  | safe
  | table
deriving DecidableEq, Repr

/-- A buffer, by stream and ring index. -/
structure BufferName where
  stream : Fin 32
  ring : Fin 8
deriving DecidableEq, Repr

/-- R86: the current buffer and the current sequence, "present together". -/
structure CurrentFrame where
  buffer : BufferName
  sequence : BitVec 32
deriving DecidableEq, Repr

/-- R86: a slot context. `holdExpiryDue` is the model's own (log entry 5): the choice of the tick found the hold timer at 0 and
the row HOLD_EXPIRED is still to come. -/
structure SlotContext where
  state : SlotState
  current : Option CurrentFrame
  holdTimer : Nat
  outputFrame : BitVec 16
  cause : Option SubstCause
  holdExpiryDue : Bool
deriving DecidableEq, Repr

/-! ## Emission (06) -/

inductive EmissionStatus where
  | none
  | active
  | finished
  | cut
deriving DecidableEq, Repr

inductive SourceKind where
  | frame
  | fill
  | ramp
deriving DecidableEq, Repr

/-- R111: an emission record. -/
structure EmissionRecord where
  status : EmissionStatus
  sourceKind : Option SourceKind
  buffer : Option BufferName
  fillTag : Option (BitVec 8)
  baseBlock : Option Nat
  lastWords : Option Nat
  fillWord : Option Word
  burstsTotal : Nat
  blocksRequested : Nat
  burstsSent : Nat
  outputFrame : BitVec 16
  egressPort : Fin 4
  outputTag : BitVec 6
  isRepeat : Bool
deriving DecidableEq, Repr

/-- R112: whose a block is. -/
inductive Owner where
  | activeEmission
  | cutEmission
deriving DecidableEq, Repr

/-- R112: HELD, or IN_TRANSMISSION at a port. -/
inductive BlockState where
  | held
  | inTransmission (port : Fin 4)
deriving DecidableEq, Repr

/-- R112: one block of a slot FIFO. -/
structure BlockEntry where
  position : Nat
  words : List Word
  mediaError : Bool
  owner : Owner
  state : BlockState
deriving DecidableEq, Repr

/-- R115: what a read in flight keeps until its completion. -/
structure SlotRead where
  buffer : BufferName
  fillTag : BitVec 8
  block : Nat
  owner : Owner
deriving DecidableEq, Repr

/-- R113: an abort record. -/
structure AbortRecord where
  outputTag : BitVec 6
  outputFrame : BitVec 16
  index : Nat
deriving DecidableEq, Repr

/-- A slot's emission: record, FIFO, read in flight and abort records (R111 to R113). -/
structure EmissionUnit where
  record : EmissionRecord
  fifo : List BlockEntry
  readInFlight : Option SlotRead
  aborts : Vector (Option AbortRecord) 4
deriving DecidableEq, Repr

/-! ## Frame memory and arbitration (07) -/

inductive WriteState where
  | queued
  | writing
deriving DecidableEq, Repr

/-- R61, R132: a write queue entry. -/
structure WriteEntry where
  stream : Fin 32
  buffer : Fin 8
  fillTag : BitVec 8
  target : Nat
  payload : List Word
  lastBurst : Bool
  state : WriteState
deriving DecidableEq, Repr

/-- R135, 12.5: the six orders of the claimant kinds. -/
inductive ArbOrder where
  | egressIngressMgmt
  | egressMgmtIngress
  | ingressEgressMgmt
  | ingressMgmtEgress
  | mgmtEgressIngress
  | mgmtIngressEgress
deriving DecidableEq, Repr

/-- R135: the access that keeps frame memory BUSY. -/
inductive Access where
  | ingress
  | egress (slot : Fin 16)
  | mgmt
  | refresh
deriving DecidableEq, Repr

/-- R135: the claimant kinds that the programmed order ranks. -/
inductive ClaimKind where
  | ingress
  | egress
  | mgmt
deriving DecidableEq, Repr

/-- R134 to R137: the arbiter. Frame memory is IDLE when `access` is absent. -/
structure Arbiter where
  order : ArbOrder
  lowMark : Nat
  urgentMark : Nat
  refreshInterval : Nat
  refreshTimer : Nat
  refreshOwed : Nat
  egressPointer : Fin 16
  access : Option Access
deriving DecidableEq, Repr

/-- The cells of frame memory: addresses strictly rising, no cell equal to what an unlisted address reads as. -/
abbrev Memory := List Host.Cell

/-- R131, R138: frame memory. `badBits` lists, strictly rising, 72 * k + b for each bit b of memory word k that is in error;
bits 0 to 31 are the word at 2 * k, bits 32 to 63 the word at 2 * k + 1, bits 64 to 71 the check bits (log entry 12).
`blocks` is the memory size. -/
structure FrameMemory where
  cells : Memory
  badBits : List Nat
  blocks : Nat
deriving DecidableEq, Repr

/-- R138: how an access is judged. -/
inductive EccVerdict where
  | good
  | corrected
  | uncorrectable
deriving DecidableEq, Repr

/-! ## Counters (08) -/

inductive CounterMode where
  | wrap
  | saturate
deriving DecidableEq, Repr

structure StreamCounters where
  accepted : Word
  damaged : Word
  dropped : Word
  refused : Word
  orphans : Word
  cadenceErrors : Word
  gaps : Word
deriving DecidableEq, Repr

structure SlotCounters where
  emitted : Word
  repeats : Word
  skips : Word
  substitutes : Word
  late : Word
deriving DecidableEq, Repr

structure IngressCounters where
  goodBursts : Word
  checkErrors : Word
  framingErrors : Word
  headerErrors : Word
  overruns : Word
  misroutes : Word
deriving DecidableEq, Repr

structure EgressCounters where
  sentBursts : Word
  discardedBursts : Word
deriving DecidableEq, Repr

structure ReferenceCounters where
  strayEdges : Word
  flywheelTicks : Word
deriving DecidableEq, Repr

structure MemoryCounters where
  corrected : Word
  uncorrectable : Word
deriving DecidableEq, Repr

/-- 8.1: the 340 counters. -/
structure CounterBank where
  streams : Vector StreamCounters 32
  slots : Vector SlotCounters 16
  ingress : Vector IngressCounters 4
  egress : Vector EgressCounters 4
  reference : ReferenceCounters
  memory : MemoryCounters
deriving DecidableEq, Repr

/-- The names of the counters of one stream (8.1). -/
inductive StreamCounter where
  | accepted
  | damaged
  | dropped
  | refused
  | orphans
  | cadenceErrors
  | gaps
deriving DecidableEq, Repr

inductive SlotCounter where
  | emitted
  | repeats
  | skips
  | substitutes
  | late
deriving DecidableEq, Repr

inductive IngressCounter where
  | goodBursts
  | checkErrors
  | framingErrors
  | headerErrors
  | overruns
  | misroutes
deriving DecidableEq, Repr

inductive EgressCounter where
  | sentBursts
  | discardedBursts
deriving DecidableEq, Repr

inductive ReferenceCounter where
  | strayEdges
  | flywheelTicks
deriving DecidableEq, Repr

inductive MemoryCounter where
  | corrected
  | uncorrectable
deriving DecidableEq, Repr

/-- R149: an interval minimum and maximum as copied. -/
structure IntervalExtremes where
  minimum : Option Nat
  maximum : Option Nat
deriving DecidableEq, Repr

/-- R149: the snapshot bank. -/
structure SnapshotBank where
  counters : CounterBank
  extremes : Vector IntervalExtremes 32
  tick : Option (BitVec 32)
  cleared : Bool
deriving DecidableEq, Repr

/-! ## Generator and checker (09) -/

inductive Pattern where
  | count
  | pn
  | fill
deriving DecidableEq, Repr

inductive GeneratorState where
  | stopped
  | running
deriving DecidableEq, Repr

/-- R155: the generator record, with the waiting burst of R158. `frameStartDue` is the model's own (log entry 5): the tick lets
a frame start and the row GENERATOR_FRAME_START is still to come. -/
structure Generator where
  state : GeneratorState
  stream : Option (Fin 32)
  pattern : Pattern
  fillWord : Word
  frameLength : Nat
  frameCount : Nat
  spacing : Nat
  ticksSinceStart : Option Nat
  inProgress : Bool
  burstsTaken : Nat
  framesDone : BitVec 32
  nextFrameNumber : BitVec 16
  stopRequested : Bool
  countValue : BitVec 32
  pnRegister : BitVec 23
  waiting : Option Burst
  frameStartDue : Bool
deriving DecidableEq, Repr

inductive CheckerState where
  | idle
  | seeking
  | synced
deriving DecidableEq, Repr

inductive Tap where
  | none
  | stream
  | slot
deriving DecidableEq, Repr

/-- R161: the expectation: the next count value, or the shift register. -/
inductive Expectation where
  | count (next : Word)
  | pn (register : BitVec 23)
deriving DecidableEq, Repr

/-- R161: the checker. -/
structure Checker where
  state : CheckerState
  tap : Tap
  tapIndex : Nat
  pattern : Pattern
  fillWord : Word
  restartAtFrame : Bool
  expectation : Option Expectation
  matchRun : Nat
  mismatchRun : Nat
  words : BitVec 32
  errors : BitVec 16
  frames : BitVec 32
deriving DecidableEq, Repr

/-- R164: the checker's snapshot bank. -/
structure CheckerBank where
  words : BitVec 32
  errors : BitVec 16
  frames : BitVec 32
  tick : Option (BitVec 32)
  cleared : Bool
deriving DecidableEq, Repr

/-! ## Faults and events (10) -/

inductive FaultKind where
  | corrected
  | uncorrectable
  | tableParity
  | refreshOverdue
deriving DecidableEq, Repr

inductive FaultSource where
  | slotReader
  | writeQueue
  | management
  | streamTable
  | routeTable
  | refresh
deriving DecidableEq, Repr

inductive PartMode where
  | normal
  | safe
deriving DecidableEq, Repr

/-- R167: the captured fault. -/
structure CapturedFault where
  kind : FaultKind
  source : FaultSource
  index : Nat
  block : Option Nat
  tick : BitVec 32
deriving DecidableEq, Repr

/-- R167: the fault record. -/
structure FaultRecord where
  minorHeld : Bool
  majorHeld : Bool
  double : Bool
  captured : Option CapturedFault
  mode : PartMode
deriving DecidableEq, Repr

/-- R173: the sixteen events. -/
inductive EventKind where
  | intervalOverflow
  | test
  | mgmtDiscard
  | misroute
  | frameDamaged
  | burstError
  | ingressOverrun
  | ringStarved
  | slotLate
  | slotSubstitute
  | streamLocked
  | streamLost
  | refState
  | faultMinor
  | faultMajor
  | faultDouble
deriving DecidableEq, Repr

/-- R173: an event latch with its detail. -/
structure Latch where
  pending : Bool
  mask : Bool
  source : BitVec 5
  cause : BitVec 4
deriving DecidableEq, Repr

/-! ## Management (11) -/

inductive Status where
  | ok
  | badRequest
  | badArgument
  | refused
  | mediaError
deriving DecidableEq, Repr

/-- R181: a reply. -/
structure Reply where
  tag : BitVec 8
  code : BitVec 8
  status : Status
  reason : Nat
  results : List Word
deriving DecidableEq, Repr

/-- R139, R140: the memory request in hand in WAIT_MEMORY; a read when `data` is absent. -/
structure MemoryJob where
  tag : BitVec 8
  code : BitVec 8
  address : Nat
  count : Nat
  data : Option (List Word)
deriving DecidableEq, Repr

/-- 11.3: the states of the executor. Between steps EXECUTING is the wait for the reset of ResetPart (R185). -/
inductive Executor where
  | idle
  | executing
  | waitMemory (job : MemoryJob)
  | waitReplySpace (reply : Reply)
deriving DecidableEq, Repr

/-- How a request's own rule ends: OK with results, BAD_ARGUMENT with a reason, REFUSED, or the wait for memory (R179). -/
inductive Answer where
  | ok (results : List Word)
  | badArgument (reason : Nat)
  | refused
  | waitMemory (address count : Nat) (data : Option (List Word))
deriving DecidableEq, Repr

/-- R186: the causes of a reset. -/
inductive ResetCause where
  | powerOn
  | pin
  | management
deriving DecidableEq, Repr

/-- What happens to the part from outside during one timebase unit: a stored entry or a memory word is disturbed (R138, R166; log
entry 13), or the clock on TBCLK stops or runs again (R19; log entry 30). A disturbed entry holds what the disturbance left and its
parity is bad. -/
inductive Upset where
  | quiet
  | streamEntry (stream : Fin 32) (stored : StreamFields)
  | activeRoute (slot : Fin 16) (stored : RouteFields)
  | pendingRoute (slot : Fin 16) (stored : RouteFields)
  | memoryBit (memoryWord : Nat) (bit : Fin 72)
  | clockStops
  | clockRuns
deriving DecidableEq, Repr

/-! ## The state -/

/-- The state of the part. `pending` is the queue of commands, first in, first out; `upsets` and `freeCount` are the model's own
(log entries 13 and 14). `resetHeld` is present while RST_N is low, with the cause its rise will record; `timebaseRuns` tells
whether TBCLK runs (R19, log entry 30). -/
structure State where
  ingress : Vector IngressPort 4
  dispatcher : Dispatcher
  egress : Vector EgressPort 4
  replyPort : Fin 4
  reference : Reference
  entries : Vector StreamEntry 32
  contexts : Vector StreamContext 32
  rings : Vector (Vector Buffer 8) 32
  routes : Vector Route 16
  slots : Vector SlotContext 16
  emissions : Vector EmissionUnit 16
  writeQueue : List WriteEntry
  arbiter : Arbiter
  memory : FrameMemory
  counterMode : CounterMode
  live : CounterBank
  snapshot : SnapshotBank
  generator : Generator
  checker : Checker
  checkerBank : CheckerBank
  faults : FaultRecord
  latches : Vector Latch 16
  requestQueue : List (List Word)
  executor : Executor
  replyQueue : List Reply
  lastResetCause : ResetCause
  resetHeld : Option ResetCause
  timebaseRuns : Bool
  pending : List Instr
  upsets : List Upset
  freeCount : Nat
deriving DecidableEq, Repr

/-- The reasons a step stops with a fault. -/
inductive Fault where
  /-- Raised by WRITE_COMPLETION, SLOT_READ_COMPLETION and MANAGEMENT_ACCESS_COMPLETION when the access would touch a block that
  frame memory does not have (R131 numbers blocks from 0 to memory size - 1). Safe: checked entries and requests never do
  (R39, R139, R140; log entry 22). -/
  | noSuchBlock
deriving DecidableEq, Repr

/-- The reasons a step is refused. -/
inductive Refusal where
  /-- Raised by a command that has no meaning yet. Safe. No arm uses it. -/
  | notModelled (mnemonic : String)
deriving DecidableEq, Repr

/-! ## Reset values -/

namespace State

/-- R34, last column. -/
def resetStreamFields : StreamFields :=
  { source := .ingress 0, regionBase := 0, bufferSize := 1, ringLength := 2, expectedBursts := 0, wordOrder := .normal,
    windowMin := 0, windowMax := 0, lockCount := 1, cadenceLimit := 1, activityWindow := 1, activityThreshold := 1,
    gapCheck := false }

/-- R38, last column. -/
def resetContext : StreamContext :=
  { state := .off, intervalCounter := 0, measuring := false, lastInterval := none, intervalMin := none, intervalMax := none,
    rateClass := none, lockProgress := 0, cadenceRun := 0, windowTicks := 0, windowFrames := 0, lastFrameNumber := none,
    sequenceCounter := 0, fillTagCounter := 0, writesOutstanding := 0, refusing := false, overflowDue := false,
    activityDue := false }

/-- R56, last column. -/
def resetBuffer : Buffer :=
  { state := .empty, fillTag := 0, sourceFrame := none, nextIndex := none, lastWords := none, burstCount := none,
    sequence := none, stamp := none, holdCount := 0, mediaError := false }

/-- R83, last column. -/
def resetRouteFields : RouteFields :=
  { enabled := false, stream := 0, delay := 0, holdLimit := 0, substKind := .fill, fillWord := 0, fillLength := 1,
    egressPort := 0, outputTag := 0 }

/-- R83: the reset entry, with good parity. -/
def resetRouteEntry : RouteEntry := { fields := resetRouteFields, parityGood := true }

/-- R86, last column. -/
def resetSlot : SlotContext :=
  { state := .off, current := none, holdTimer := 0, outputFrame := 0, cause := none, holdExpiryDue := false }

/-- R111, last column. -/
def resetRecord : EmissionRecord :=
  { status := .none, sourceKind := none, buffer := none, fillTag := none, baseBlock := none, lastWords := none,
    fillWord := none, burstsTotal := 0, blocksRequested := 0, burstsSent := 0, outputFrame := 0, egressPort := 0,
    outputTag := 0, isRepeat := false }

/-- R112, R113, R129. -/
def resetEmission : EmissionUnit :=
  { record := resetRecord, fifo := [], readInFlight := none, aborts := Vector.replicate 4 none }

/-- R145: every live counter is 0. -/
def zeroCounters : CounterBank :=
  { streams := Vector.replicate 32
      { accepted := 0, damaged := 0, dropped := 0, refused := 0, orphans := 0, cadenceErrors := 0, gaps := 0 }
    slots := Vector.replicate 16 { emitted := 0, repeats := 0, skips := 0, substitutes := 0, late := 0 }
    ingress := Vector.replicate 4
      { goodBursts := 0, checkErrors := 0, framingErrors := 0, headerErrors := 0, overruns := 0, misroutes := 0 }
    egress := Vector.replicate 4 { sentBursts := 0, discardedBursts := 0 }
    reference := { strayEdges := 0, flywheelTicks := 0 }
    memory := { corrected := 0, uncorrectable := 0 } }

/-- 1.6: the power-on settings of an ingress port; only IN0 has management permission. -/
def resetIngress (permission : Bool) : IngressPort :=
  { enabled := true, permission := permission, bitOrder := .lsbFirst, fifo := [] }

/-- 1.6, R15: the power-on settings of an egress port; its pointer rests at the reply queue position. -/
def resetEgress : EgressPort :=
  { enabled := true, bitOrder := .lsbFirst, pointer := 16, sending := none }

/-- R21. -/
def resetReference : Reference :=
  { mode := .free, state := .free, params := { period := 1000000, tolerance := 1000, lossCount := 3, regainCount := 3 },
    pendingParams := none, periodCounter := 0, edgeCounter := none, missedRun := 0, goodRun := 0, tickNumber := 0 }

/-- R143. -/
def resetArbiter : Arbiter :=
  { order := .egressIngressMgmt, lowMark := 4, urgentMark := 1, refreshInterval := 780, refreshTimer := 0, refreshOwed := 0,
    egressPointer := 15, access := none }

/-- R155. -/
def resetGenerator : Generator :=
  { state := .stopped, stream := none, pattern := .count, fillWord := 0, frameLength := 1, frameCount := 0, spacing := 1,
    ticksSinceStart := none, inProgress := false, burstsTaken := 0, framesDone := 0, nextFrameNumber := 0,
    stopRequested := false, countValue := 0, pnRegister := BitVec.allOnes 23, waiting := none, frameStartDue := false }

/-- R161. -/
def resetChecker : Checker :=
  { state := .idle, tap := .none, tapIndex := 0, pattern := .count, fillWord := 0, restartAtFrame := false,
    expectation := none, matchRun := 0, mismatchRun := 0, words := 0, errors := 0, frames := 0 }

/-- The part right after a power-on reset (R186), every block at its reset values. The strap MEMSZ is taken as 0, so memory has
65,536 blocks (DESIGN CHOICE, log entry 9), and no cell of frame memory is listed (log entry 10). -/
def reset : State :=
  { ingress := #v[resetIngress true, resetIngress false, resetIngress false, resetIngress false]
    dispatcher := { pointer := 0, waiting := none }
    egress := Vector.replicate 4 resetEgress
    replyPort := 0
    reference := resetReference
    entries := Vector.replicate 32 { fields := resetStreamFields, parityGood := true }
    contexts := Vector.replicate 32 resetContext
    rings := Vector.replicate 32 (Vector.replicate 8 resetBuffer)
    routes := Vector.replicate 16 { active := resetRouteEntry, pending := none }
    slots := Vector.replicate 16 resetSlot
    emissions := Vector.replicate 16 resetEmission
    writeQueue := []
    arbiter := resetArbiter
    memory := { cells := [], badBits := [], blocks := 65536 }
    counterMode := .wrap
    live := zeroCounters
    snapshot :=
      { counters := zeroCounters, extremes := Vector.replicate 32 { minimum := none, maximum := none }, tick := none,
        cleared := false }
    generator := resetGenerator
    checker := resetChecker
    checkerBank := { words := 0, errors := 0, frames := 0, tick := none, cleared := false }
    faults := { minorHeld := false, majorHeld := false, double := false, captured := none, mode := .normal }
    latches := Vector.replicate 16 { pending := false, mask := false, source := 0, cause := 0 }
    requestQueue := []
    executor := .idle
    replyQueue := []
    lastResetCause := .powerOn
    resetHeld := none
    timebaseRuns := true
    pending := []
    upsets := []
    freeCount := 0 }

end State

end Sys2Proof.Machine
end

