-- ==== Sys2Proof/Machine/Tables.lean ====
section
/-! DEFINITION. Tables of like records (streams, slots, ports, buffers): changing one, changing all, searching round-robin. -/

namespace Sys2Proof.Machine

/-- The table with entry `i` changed by `f`. -/
def modifyAt {α : Type} {n : Nat} (v : Vector α n) (i : Fin n) (f : α → α) : Vector α n :=
  v.set i (f v[i])

/-- The table with every entry changed by `f`. -/
def mapTable {α β : Type} {n : Nat} (f : α → β) (v : Vector α n) : Vector β n :=
  ⟨⟨v.toList.map f⟩, by simp⟩

/-- The indexes of a table in rising order. -/
def indexes (n : Nat) : List (Fin n) := List.finRange n

/-- The indexes of a table of `n` entries, searching from `start` and round once (R8, R15, R136). -/
def roundFrom {n : Nat} (start : Fin n) : List (Fin n) :=
  (indexes n).drop start.val ++ (indexes n).take start.val

/-- The position after `i`, going round (R8, R15, R136). -/
def nextIndex {n : Nat} (i : Fin n) : Fin n :=
  ⟨(i.val + 1) % n, Nat.mod_lt _ (Nat.zero_lt_of_lt i.isLt)⟩

/-- `f` done for each index of a list, in its order. -/
def forEach {ι σ : Type} (is : List ι) (f : ι → σ → σ) (s : σ) : σ :=
  is.foldl (fun t i => f i t) s

end Sys2Proof.Machine
end

