-- ==== Sys2Proof/Machine/Flags.lean ====
section
/-! DEFINITION. Counters and event latches: how a counter is incremented (08), how an event is raised and what ALERT_N shows (10). -/

namespace Sys2Proof.Machine

/-! ## Counters -/

/-- R146: an increment by `k` of a counter whose maximum is all ones. -/
def bump {w : Nat} (mode : CounterMode) (v : BitVec w) (k : Nat) : BitVec w :=
  match mode with
  | .wrap => v + BitVec.ofNat w k
  | .saturate => if v.toNat + k < 2 ^ w then BitVec.ofNat w (v.toNat + k) else BitVec.allOnes w

/-- R145: one increment of one counter of a stream. -/
def bumpStream (mode : CounterMode) (c : StreamCounter) (t : StreamCounters) : StreamCounters :=
  match c with
  | .accepted => { t with accepted := bump mode t.accepted 1 }
  | .damaged => { t with damaged := bump mode t.damaged 1 }
  | .dropped => { t with dropped := bump mode t.dropped 1 }
  | .refused => { t with refused := bump mode t.refused 1 }
  | .orphans => { t with orphans := bump mode t.orphans 1 }
  | .cadenceErrors => { t with cadenceErrors := bump mode t.cadenceErrors 1 }
  | .gaps => { t with gaps := bump mode t.gaps 1 }

/-- R104, R145: an increment by `k` of one counter of a slot. -/
def bumpSlot (mode : CounterMode) (c : SlotCounter) (k : Nat) (t : SlotCounters) : SlotCounters :=
  match c with
  | .emitted => { t with emitted := bump mode t.emitted k }
  | .repeats => { t with repeats := bump mode t.repeats k }
  | .skips => { t with skips := bump mode t.skips k }
  | .substitutes => { t with substitutes := bump mode t.substitutes k }
  | .late => { t with late := bump mode t.late k }

/-- R5, R7, R9: one increment of one counter of an ingress port. -/
def bumpIngress (mode : CounterMode) (c : IngressCounter) (t : IngressCounters) : IngressCounters :=
  match c with
  | .goodBursts => { t with goodBursts := bump mode t.goodBursts 1 }
  | .checkErrors => { t with checkErrors := bump mode t.checkErrors 1 }
  | .framingErrors => { t with framingErrors := bump mode t.framingErrors 1 }
  | .headerErrors => { t with headerErrors := bump mode t.headerErrors 1 }
  | .overruns => { t with overruns := bump mode t.overruns 1 }
  | .misroutes => { t with misroutes := bump mode t.misroutes 1 }

/-- R16, R17: one increment of one counter of an egress port. -/
def bumpEgress (mode : CounterMode) (c : EgressCounter) (t : EgressCounters) : EgressCounters :=
  match c with
  | .sentBursts => { t with sentBursts := bump mode t.sentBursts 1 }
  | .discardedBursts => { t with discardedBursts := bump mode t.discardedBursts 1 }

/-- R33: one increment of one counter of the reference unit. -/
def bumpReference (mode : CounterMode) (c : ReferenceCounter) (t : ReferenceCounters) : ReferenceCounters :=
  match c with
  | .strayEdges => { t with strayEdges := bump mode t.strayEdges 1 }
  | .flywheelTicks => { t with flywheelTicks := bump mode t.flywheelTicks 1 }

/-- R138: one increment of one counter of frame memory. -/
def bumpMemory (mode : CounterMode) (c : MemoryCounter) (t : MemoryCounters) : MemoryCounters :=
  match c with
  | .corrected => { t with corrected := bump mode t.corrected 1 }
  | .uncorrectable => { t with uncorrectable := bump mode t.uncorrectable 1 }

/-- A counter of stream `n` is incremented (R145). -/
def countStream (n : Fin 32) (c : StreamCounter) (s : State) : State :=
  { s with live := { s.live with streams := modifyAt s.live.streams n (bumpStream s.counterMode c) } }

/-- A counter of slot `k` is increased by `amount` in one increment (R145, R95). -/
def countSlot (k : Fin 16) (c : SlotCounter) (amount : Nat) (s : State) : State :=
  { s with live := { s.live with slots := modifyAt s.live.slots k (bumpSlot s.counterMode c amount) } }

/-- A counter of ingress port `p` is incremented. -/
def countIngress (p : Fin 4) (c : IngressCounter) (s : State) : State :=
  { s with live := { s.live with ingress := modifyAt s.live.ingress p (bumpIngress s.counterMode c) } }

/-- A counter of egress port `p` is incremented. -/
def countEgress (p : Fin 4) (c : EgressCounter) (s : State) : State :=
  { s with live := { s.live with egress := modifyAt s.live.egress p (bumpEgress s.counterMode c) } }

/-- A counter of the reference unit is incremented. -/
def countReference (c : ReferenceCounter) (s : State) : State :=
  { s with live := { s.live with reference := bumpReference s.counterMode c s.live.reference } }

/-- A counter of frame memory is incremented. -/
def countMemory (c : MemoryCounter) (s : State) : State :=
  { s with live := { s.live with memory := bumpMemory s.counterMode c s.live.memory } }

/-! ## Event latches -/

/-- R173: the number of an event's latch. -/
def latchNumber (e : EventKind) : Fin 16 :=
  match e with
  | .intervalOverflow => 0
  | .test => 1
  | .mgmtDiscard => 2
  | .misroute => 3
  | .frameDamaged => 4
  | .burstError => 5
  | .ingressOverrun => 6
  | .ringStarved => 7
  | .slotLate => 8
  | .slotSubstitute => 9
  | .streamLocked => 10
  | .streamLost => 11
  | .refState => 12
  | .faultMinor => 13
  | .faultMajor => 14
  | .faultDouble => 15

/-- R173: an occurrence sets the pending flag and overwrites the detail, whatever the mask. -/
def occur (source cause : Nat) (l : Latch) : Latch :=
  { l with pending := true, source := BitVec.ofNat 5 source, cause := BitVec.ofNat 4 cause }

/-- R173: an event is raised with its source index and cause code. -/
def raise (e : EventKind) (source cause : Nat) (s : State) : State :=
  { s with latches := modifyAt s.latches (latchNumber e) (occur source cause) }

/-- R174: ALERT_N is asserted (low) while at least one latch is both pending and unmasked. A mask flag set means unmasked (R173). -/
def alertAsserted (s : State) : Bool :=
  s.latches.toList.any fun l => l.pending && l.mask

end Sys2Proof.Machine
end

