-- ==== Sys2Proof/Machine/Operands.lean ====
section
/-! DEFINITION. Formats: the check word (R3), the burst header (R187), request and reply records (R178, R188), and the codes of
enumerated values (12.5). -/

namespace Sys2Proof.Machine

/-! ## The check word (R3) -/

/-- R3: one input bit taken into the shift value. -/
def crcBit (shift : Word) (bit : Bool) : Word :=
  let up := shift <<< 1
  if xor bit shift.msb then up ^^^ 0x04C11DB7#32 else up

/-- R3: the bits of a word in the order they are fed. -/
def fedBits (o : BitOrder) (w : Word) : List Bool :=
  let rising := (List.range 32).map fun i => w.getLsbD i
  match o with
  | .lsbFirst => rising
  | .msbFirst => rising.reverse

/-- R3: the shift value after the words given. -/
def crcShift (o : BitOrder) (ws : List Word) : Word :=
  ws.foldl (fun acc w => (fedBits o w).foldl crcBit acc) 0xFFFFFFFF#32

/-- A word with its 32 bits reversed: bit 31 becomes bit 0. -/
def reverseBits (w : Word) : Word :=
  (List.range 32).foldl (fun acc i => (acc <<< 1) ||| (if w.getLsbD i then 1#32 else 0#32)) 0#32

/-- R3: the check word over header and payload. -/
def checkWordOf (o : BitOrder) (ws : List Word) : Word :=
  let complemented := ~~~ (crcShift o ws)
  match o with
  | .lsbFirst => reverseBits complemented
  | .msbFirst => complemented

/-! ## The burst header (R187) -/

/-- R187: the kind that a code names, if any. -/
def kindOfCode (c : BitVec 4) : Option BurstKind :=
  if c = 1#4 then some .startBurst
  else if c = 2#4 then some .bodyBurst
  else if c = 3#4 then some .endBurst
  else if c = 4#4 then some .singleBurst
  else if c = 5#4 then some .abortBurst
  else if c = 6#4 then some .requestBurst
  else if c = 8#4 then some .replyBurst
  else none

/-- R187: the code of a kind. -/
def codeOfKind (k : BurstKind) : BitVec 4 :=
  match k with
  | .startBurst => 1#4
  | .bodyBurst => 2#4
  | .endBurst => 3#4
  | .singleBurst => 4#4
  | .abortBurst => 5#4
  | .requestBurst => 6#4
  | .replyBurst => 8#4

/-- R187: word 0, bits 31 to 26. -/
def headerTag (w0 : Word) : BitVec 6 := w0.extractLsb' 26 6

/-- R187: word 0, bits 25 to 22. -/
def headerKind (w0 : Word) : BitVec 4 := w0.extractLsb' 22 4

/-- R187: word 0, bits 18 to 12. -/
def headerLength (w0 : Word) : Nat := (w0.extractLsb' 12 7).toNat

/-- R187: word 0, bits 11 to 0. -/
def headerIndex (w0 : Word) : Nat := (w0.extractLsb' 0 12).toNat

/-- R187: word 1, bits 31 to 16. -/
def headerFrame (w1 : Word) : BitVec 16 := w1.extractLsb' 16 16

/-- R187: word 1, bits 15 to 0, reserved. -/
def headerReserved (w1 : Word) : BitVec 16 := w1.extractLsb' 0 16

/-- R187: the two header words of a burst; the reserved bits are written as 0. -/
def headerWords (b : Burst) : List Word :=
  [ (b.tag ++ codeOfKind b.kind ++ BitVec.ofBool b.repeatFlag ++ BitVec.ofBool b.substFlag ++ BitVec.ofBool b.mediaErrFlag
      ++ BitVec.ofNat 7 b.payload.length ++ BitVec.ofNat 12 b.index : BitVec 32),
    (b.frameNumber ++ 0#16 : BitVec 32) ]

/-- The words of a burst that the check word covers: header and payload (R3, R187). -/
def coveredWords (b : Burst) : List Word := headerWords b ++ b.payload

/-! ## Ingress checks (R2, R3, R6) -/

/-- R2: a start marker, a whole header, exactly the announced payload, one check word, the end marker. -/
def framingGood (r : Reception) : Bool :=
  match r.closedBy, r.words with
  | .endMarker, w0 :: rest => rest.length == headerLength w0 + 2
  | _, _ => false

/-- R3: the check word received is the one computed over the header and payload received. -/
def checkGood (o : BitOrder) (words : List Word) : Bool :=
  words.getLast? == some (checkWordOf o words.dropLast)

/-- R6: the header errors, judged from the two header words alone. -/
def headerBad (w0 w1 : Word) : Bool :=
  let tag := (headerTag w0).toNat
  let length := headerLength w0
  (match kindOfCode (headerKind w0) with
    | none => true
    | some .abortBurst => true
    | some .replyBurst => true
    | some .requestBurst => tag != 63
    | some .startBurst => decide (31 < tag)
    | some .bodyBurst => decide (31 < tag)
    | some .endBurst => decide (31 < tag)
    | some .singleBurst => decide (31 < tag))
  || length == 0 || decide (64 < length) || headerReserved w1 != 0#16

/-- R1: the burst read from a reception whose checks are good. The part treats every ingress burst as if its flags were clear. -/
def burstOfWords (kind : BurstKind) (w0 w1 : Word) (rest : List Word) : Burst :=
  { tag := headerTag w0, kind := kind, repeatFlag := false, substFlag := false, mediaErrFlag := false,
    index := headerIndex w0, frameNumber := headerFrame w1, payload := rest.take (headerLength w0) }

/-- R5: the three checks in their fixed order. -/
def judgeReception (o : BitOrder) (r : Reception) : BurstJudgement :=
  if framingGood r then
    if checkGood o r.words then
      match r.words with
      | w0 :: w1 :: rest =>
        if headerBad w0 w1 then .headerError
        else
          match kindOfCode (headerKind w0) with
          | some kind => .good (burstOfWords kind w0 w1 rest)
          | none => .headerError
      | _ => .framingError
    else .checkError
  else .framingError

/-! ## Request records (R178, R188) -/

/-- R188: word 0, bits 31 to 24; 0 when the payload does not hold it (R178). -/
def requestTag (p : List Word) : BitVec 8 := (p.getD 0 0).extractLsb' 24 8

/-- R188: word 0, bits 23 to 16; 0 when the payload does not hold it (R178). -/
def requestCode (p : List Word) : BitVec 8 := (p.getD 0 0).extractLsb' 16 8

/-- R188: word 1, bits 5 to 0. -/
def requestCount (p : List Word) : Nat := ((p.getD 1 0).extractLsb' 0 6).toNat

/-- R188: the operands follow the two header words. -/
def requestOperands (p : List Word) : List Word := p.drop 2

/-- 12.3: the fixed operand count of a request code, MemoryWrite (13h) apart; none for a code that names no request. -/
def fixedOperandCount (code : BitVec 8) : Option Nat :=
  match code.toNat with
  | 0x01 => some 0
  | 0x02 => some 0
  | 0x03 => some 0
  | 0x04 => some 21
  | 0x05 => some 1
  | 0x06 => some 14
  | 0x07 => some 1
  | 0x08 => some 1
  | 0x09 => some 1
  | 0x0A => some 1
  | 0x0B => some 1
  | 0x0C => some 10
  | 0x0D => some 1
  | 0x0E => some 0
  | 0x0F => some 5
  | 0x10 => some 0
  | 0x11 => some 4
  | 0x12 => some 2
  | 0x14 => some 1
  | 0x15 => some 2
  | 0x16 => some 1
  | 0x17 => some 0
  | 0x18 => some 0
  | 0x19 => some 1
  | 0x1A => some 1
  | 0x1B => some 0
  | 0x1C => some 0
  | 0x1D => some 6
  | 0x1E => some 0
  | 0x1F => some 5
  | 0x20 => some 1
  | 0x21 => some 0
  | _ => none

/-- The code of MemoryWrite (12.3). -/
def memoryWriteCode : BitVec 8 := 0x13#8

/-- R178: the operand count is the count the request takes; for MemoryWrite 2 to 62, its second operand being the count less 2. -/
def operandCountGood (p : List Word) : Bool :=
  if requestCode p = memoryWriteCode then
    decide (2 ≤ requestCount p) && decide (requestCount p ≤ 62) &&
      ((requestOperands p).getD 1 0).toNat + 2 == requestCount p
  else fixedOperandCount (requestCode p) == some (requestCount p)

/-- R178: every form check. -/
def formGood (p : List Word) : Bool :=
  decide (2 ≤ p.length) && operandCountGood p && p.length == 2 + requestCount p &&
    (p.getD 0 0).extractLsb' 0 16 == 0#16 && (p.getD 1 0).extractLsb' 6 26 == 0#26

/-- The value of operand `i`, read as an unsigned number (R188). -/
def operand (ops : List Word) (i : Nat) : Nat := (ops.getD i 0).toNat

/-! ## Reply records (R181, R188) -/

/-- R188: the code of a status. -/
def statusCode (st : Status) : BitVec 4 :=
  match st with
  | .ok => 0#4
  | .badRequest => 1#4
  | .badArgument => 2#4
  | .refused => 3#4
  | .mediaError => 4#4

/-- R188: a reply record: two header words, then the results. -/
def replyWords (r : Reply) : List Word :=
  (r.tag ++ r.code ++ statusCode r.status ++ BitVec.ofNat 8 r.reason ++ 0#4 : BitVec 32)
    :: (0#26 ++ BitVec.ofNat 6 r.results.length : BitVec 32) :: r.results

/-- R185: the reply to ResetPart (code 02h), whose completion brings the management reset. -/
def Reply.isResetPart (r : Reply) : Bool := r.code == 0x02#8 && r.status == .ok

/-- R16: a reply is one burst with tag 63, kind MGMT_REPLY, flags clear, index 0 and frame number 0. -/
def replyBurst (r : Reply) : Burst :=
  { tag := 63#6, kind := .replyBurst, repeatFlag := false, substFlag := false, mediaErrFlag := false, index := 0,
    frameNumber := 0#16, payload := replyWords r }

/-! ## Result words (12.2, 12.4) -/

/-- A number as a result word. -/
def num (n : Nat) : Word := BitVec.ofNat 32 n

/-- A flag as a result word: 1 on, yes or set (12.5). -/
def flag (b : Bool) : Word := if b then 1#32 else 0#32

/-- A bit field in the low bits of its word (12.5). -/
def field {w : Nat} (v : BitVec w) : Word := v.setWidth 32

/-- R188: an absent field still takes its word, and that word is 0. -/
def optNum (o : Option Nat) : Word := num (o.getD 0)

/-- R188: an absent bit field. -/
def optField {w : Nat} (o : Option (BitVec w)) : Word := field (o.getD 0)

/-- R188: bit n of a presence word is set when the nth optional field is present. -/
def presence (present : List Bool) : Word :=
  present.foldr (fun b acc => (acc <<< 1) ||| flag b) 0#32

/-! ## Codes of enumerated values (12.5) -/

def BitOrder.code : BitOrder → Nat
  | .lsbFirst => 0
  | .msbFirst => 1

def StreamSource.code : StreamSource → Nat
  | .ingress p => p.val
  | .generator => 4

def WordOrder.code : WordOrder → Nat
  | .normal => 0
  | .swapped => 1

def StreamState.code : StreamState → Nat
  | .off => 0
  | .acquiring => 1
  | .locked => 2
  | .lost => 3
  | .closing => 4

def RateClass.code : RateClass → Nat
  | .fast => 0
  | .matched => 1
  | .slow => 2

def BufferState.code : BufferState → Nat
  | .empty => 0
  | .filling => 1
  | .sealing => 2
  | .ready => 3
  | .shown => 4

def SlotState.code : SlotState → Nat
  | .off => 0
  | .run => 1
  | .holding => 2
  | .subst => 3

def SubstKind.code : SubstKind → Nat
  | .fill => 0
  | .ramp => 1
  | .blank => 2

/-- R100. -/
def SubstCause.code : SubstCause → Nat
  | .noFrame => 0
  | .holdExpired => 1
  | .streamOff => 2
  | .safe => 3
  | .table => 4

def EmissionStatus.code : EmissionStatus → Nat
  | .none => 0
  | .active => 1
  | .finished => 2
  | .cut => 3

def SourceKind.code : SourceKind → Nat
  | .frame => 0
  | .fill => 1
  | .ramp => 2

def RefMode.code : RefMode → Nat
  | .free => 0
  | .follow => 1

/-- R28. -/
def RefState.code : RefState → Nat
  | .free => 0
  | .tracking => 1
  | .coasting => 2
  | .searching => 3

def ArbOrder.code : ArbOrder → Nat
  | .egressIngressMgmt => 0
  | .egressMgmtIngress => 1
  | .ingressEgressMgmt => 2
  | .ingressMgmtEgress => 3
  | .mgmtEgressIngress => 4
  | .mgmtIngressEgress => 5

def Access.code : Access → Nat
  | .ingress => 0
  | .egress _ => 1
  | .mgmt => 2
  | .refresh => 3

/-- R166. -/
def FaultKind.code : FaultKind → Nat
  | .corrected => 0
  | .uncorrectable => 1
  | .tableParity => 2
  | .refreshOverdue => 3

def FaultSource.code : FaultSource → Nat
  | .slotReader => 0
  | .writeQueue => 1
  | .management => 2
  | .streamTable => 3
  | .routeTable => 4
  | .refresh => 5

def PartMode.code : PartMode → Nat
  | .normal => 0
  | .safe => 1

def ResetCause.code : ResetCause → Nat
  | .powerOn => 0
  | .pin => 1
  | .management => 2

def GeneratorState.code : GeneratorState → Nat
  | .stopped => 0
  | .running => 1

def CheckerState.code : CheckerState → Nat
  | .idle => 0
  | .seeking => 1
  | .synced => 2

def Pattern.code : Pattern → Nat
  | .count => 0
  | .pn => 1
  | .fill => 2

def Tap.code : Tap → Nat
  | .none => 0
  | .stream => 1
  | .slot => 2

/-- 12.5: the pattern a code names. -/
def patternOf (code : Nat) : Option Pattern :=
  match code with
  | 0 => some .count
  | 1 => some .pn
  | 2 => some .fill
  | _ => none

/-- 12.5: the source a code names. -/
def sourceOf (code : Nat) : Option StreamSource :=
  match code with
  | 0 => some (.ingress 0)
  | 1 => some (.ingress 1)
  | 2 => some (.ingress 2)
  | 3 => some (.ingress 3)
  | 4 => some .generator
  | _ => none

/-- 12.5: the word order a code names. -/
def wordOrderOf (code : Nat) : Option WordOrder :=
  match code with
  | 0 => some .normal
  | 1 => some .swapped
  | _ => none

/-- 12.5: the substitute kind a code names. -/
def substKindOf (code : Nat) : Option SubstKind :=
  match code with
  | 0 => some .fill
  | 1 => some .ramp
  | 2 => some .blank
  | _ => none

/-- 12.5: the tap a code names. -/
def tapOf (code : Nat) : Option Tap :=
  match code with
  | 0 => some .none
  | 1 => some .stream
  | 2 => some .slot
  | _ => none

/-- 12.5: the reference mode a code names. -/
def refModeOf (code : Nat) : Option RefMode :=
  match code with
  | 0 => some .free
  | 1 => some .follow
  | _ => none

/-- 12.5: the programmed order a code names. -/
def arbOrderOf (code : Nat) : Option ArbOrder :=
  match code with
  | 0 => some .egressIngressMgmt
  | 1 => some .egressMgmtIngress
  | 2 => some .ingressEgressMgmt
  | 3 => some .ingressMgmtEgress
  | 4 => some .mgmtEgressIngress
  | 5 => some .mgmtIngressEgress
  | _ => none

/-- 12.5: a flag from its code: 0 off, 1 on. -/
def flagOf (code : Nat) : Option Bool :=
  match code with
  | 0 => some false
  | 1 => some true
  | _ => none

/-- 12.5: a bit order from its code. -/
def bitOrderOf (code : Nat) : Option BitOrder :=
  match code with
  | 0 => some .lsbFirst
  | 1 => some .msbFirst
  | _ => none

/-- A number below `n` as an index of a table of `n` entries. -/
def indexOf (n : Nat) (v : Nat) : Option (Fin n) :=
  if h : v < n then some ⟨v, h⟩ else none

end Sys2Proof.Machine
end

