-- ==== Sys2Proof/Machine/Ops.lean ====
section
/-! DEFINITION. The shared operations: frame memory and its error correction (07), buffer records and holds (04), faults and
SAFE (10), and a stream's entry to LOST and CLOSING (03). -/

namespace Sys2Proof.Machine

/-! ## Frame memory: bytes, words, memory words (R131) -/

/-- The byte at an address: the cell that lists it, else what an unlisted address reads as (log entry 10). -/
def Memory.read (m : Memory) (a : Nat) : Byte :=
  match m with
  | [] => Config.unlistedByte
  | (b, v) :: rest => if a = b then v else Memory.read rest a

/-- A byte written at an address, keeping the canonical form. -/
def Memory.write (m : Memory) (a : Nat) (v : Byte) : Memory :=
  match m with
  | [] => if v = Config.unlistedByte then [] else [(a, v)]
  | (b, w) :: rest =>
    if a < b then (if v = Config.unlistedByte then (b, w) :: rest else (a, v) :: (b, w) :: rest)
    else if a = b then (if v = Config.unlistedByte then rest else (a, v) :: rest)
    else (b, w) :: Memory.write rest a v

/-- The canonical form: addresses strictly rising from the bound given, no cell equal to what an unlisted address reads as. -/
def Memory.wfFrom (low : Nat) (m : Memory) : Bool :=
  match m with
  | [] => true
  | (a, v) :: rest => decide (low ≤ a) && v != Config.unlistedByte && Memory.wfFrom (a + 1) rest

/-- The canonical form of the cells of frame memory. -/
def Memory.wf (m : Memory) : Bool := Memory.wfFrom 0 m

/-- The word at a word address: the four bytes from byte address 4 * w, the first the most significant (log entry 11). -/
def Memory.readWord (m : Memory) (w : Nat) : Word :=
  (m.read (4 * w) ++ m.read (4 * w + 1) ++ m.read (4 * w + 2) ++ m.read (4 * w + 3) : BitVec 32)

/-- A word stored at a word address. -/
def Memory.writeWord (m : Memory) (w : Nat) (v : Word) : Memory :=
  (((m.write (4 * w) (v.extractLsb' 24 8)).write (4 * w + 1) (v.extractLsb' 16 8)).write (4 * w + 2)
    (v.extractLsb' 8 8)).write (4 * w + 3) (v.extractLsb' 0 8)

/-- Words stored one after another from a word address on. -/
def Memory.writeWords (m : Memory) (w : Nat) (vs : List Word) : Memory :=
  match vs with
  | [] => m
  | v :: rest => Memory.writeWords (m.writeWord w v) (w + 1) rest

/-! ## Error correction (R138) -/

/-- The bits in error of memory word `k`, as positions 0 to 71. -/
def badBitsOf (bad : List Nat) (k : Nat) : List Nat :=
  (bad.filter fun b => b / 72 == k).map fun b => b % 72

/-- The bits in error once memory words `k` to `k + n - 1` have been written with fresh check bits. -/
def clearBadBits (bad : List Nat) (k n : Nat) : List Nat :=
  bad.filter fun b => !(decide (k ≤ b / 72) && decide (b / 72 < k + n))

/-- A bit of a memory word turned over, in the rising list of bits in error. -/
def toggleBadBit (bad : List Nat) (b : Nat) : List Nat :=
  match bad with
  | [] => [b]
  | c :: rest => if b < c then b :: c :: rest else if b = c then rest else c :: toggleBadBit rest b

/-- A stored word as it is delivered uncorrected: with its bits in error turned over. `half` is 0 for the even word, 1 for the odd. -/
def asStored (bits : List Nat) (half : Nat) (v : Word) : Word :=
  bits.foldl (fun acc b => if b / 32 = half then acc ^^^ (1#32 <<< (b % 32)) else acc) v

/-- R138: how a memory word with these bits in error is judged: one is corrected, two are uncorrectable; more is open
(log entry 12). -/
def verdictOf (bits : List Nat) : EccVerdict :=
  match bits with
  | [] => .good
  | [_] => .corrected
  | [_, _] => .uncorrectable
  | _ =>
    match Config.multiBitVerdict bits with
    | 0 => .good
    | 1 => .corrected
    | 2 => .uncorrectable

/-- R138: what a memory word with these bits in error delivers for the word at a word address. -/
def deliveredWord (bits : List Nat) (a : Nat) (v : Word) : Word :=
  match bits with
  | [] => v
  | [_] => v
  | [_, _] => asStored bits (a % 2) v
  | _ => Config.multiBitWord a bits v

/-- R138: the word delivered from a word address. -/
def FrameMemory.deliver (m : FrameMemory) (a : Nat) : Word :=
  deliveredWord (badBitsOf m.badBits (a / 2)) a (m.cells.readWord a)

/-- R138: the verdict on memory word `k`. -/
def FrameMemory.verdict (m : FrameMemory) (k : Nat) : EccVerdict :=
  verdictOf (badBitsOf m.badBits k)

/-- R138: the worse of two verdicts. -/
def EccVerdict.worse (a b : EccVerdict) : EccVerdict :=
  match a, b with
  | .uncorrectable, _ => .uncorrectable
  | _, .uncorrectable => .uncorrectable
  | .corrected, _ => .corrected
  | _, .corrected => .corrected
  | .good, .good => .good

/-- R138: the worst of the verdicts on memory words `k` to `k + n - 1`. -/
def FrameMemory.worst (m : FrameMemory) (k n : Nat) : EccVerdict :=
  (List.range n).foldl (fun acc i => acc.worse (m.verdict (k + i))) .good

/-- The words delivered from word addresses `a` to `a + n - 1`. -/
def FrameMemory.deliverWords (m : FrameMemory) (a n : Nat) : List Word :=
  (List.range n).map fun i => m.deliver (a + i)

/-- The number of memory words that hold words `a` to `a + n - 1`. -/
def memoryWordSpan (a n : Nat) : Nat := if n = 0 then 0 else (a + n - 1) / 2 - a / 2 + 1

/-- R133, R140: the worst verdict on the memory words merged when words are written from `a` to `a + n - 1`: the first when `a`
is odd, the last when `a + n` is odd. -/
def FrameMemory.mergeVerdict (m : FrameMemory) (a n : Nat) : EccVerdict :=
  if n = 0 then .good
  else
    (if a % 2 = 1 then m.verdict (a / 2) else .good).worse
      (if (a + n) % 2 = 1 then m.verdict ((a + n - 1) / 2) else .good)

/-- R133, R140: words stored from word address `a`, the unwritten words of merged memory words written back as delivered, and
every memory word touched given fresh check bits. -/
def FrameMemory.store (m : FrameMemory) (a : Nat) (vs : List Word) : FrameMemory :=
  let n := vs.length
  let before := if n ≠ 0 ∧ a % 2 = 1 then [m.deliver (a - 1)] else []
  let after := if n ≠ 0 ∧ (a + n) % 2 = 1 then [m.deliver (a + n)] else []
  { m with
    cells := m.cells.writeWords (a - before.length) (before ++ vs ++ after)
    badBits := clearBadBits m.badBits (a / 2) (memoryWordSpan a n) }

/-- R143: memory word `k` with check bits that disagree with its data: the bits given are turned over in its bits in error, where it then
reads as corrected or uncorrectable; with bits for which it would read as good its bits in error stay (log entry 14). -/
def FrameMemory.disturb (m : FrameMemory) (k : Nat) (bits : List Nat) : FrameMemory :=
  let left := { m with badBits := bits.foldl (fun bad b => toggleBadBit bad (72 * k + b % 72)) m.badBits }
  if left.verdict k = .good then m else left

/-- R143: what an abandoned write leaves: each memory word of it landed or not, and each merged memory word with its check bits agreeing
or not; both are free values (log entry 14). -/
def FrameMemory.abandon (m : FrameMemory) (draw a : Nat) (vs : List Word) : FrameMemory :=
  let full := m.store a vs
  let n := vs.length
  let first := a / 2
  let merged := (if n ≠ 0 ∧ a % 2 = 1 then [a / 2] else []) ++ (if n ≠ 0 ∧ (a + n) % 2 = 1 then [(a + n - 1) / 2] else [])
  let landed := (List.range (memoryWordSpan a n)).map fun i => first + i
  let kept := landed.foldl
    (fun acc k =>
      if Config.abandonedLanded draw k then
        { acc with
          cells := acc.cells.writeWords (2 * k) [full.cells.readWord (2 * k), full.cells.readWord (2 * k + 1)]
          badBits := clearBadBits acc.badBits k 1 }
      else acc)
    m
  merged.foldl (fun acc k => acc.disturb k (Config.abandonedBits draw k)) kept

/-! ## Buffer records (04) -/

/-- The record of a buffer. -/
def bufferOf (s : State) (b : BufferName) : Buffer := s.rings[b.stream][b.ring]

/-- A buffer record changed. -/
def modifyBuffer (b : BufferName) (f : Buffer → Buffer) (s : State) : State :=
  { s with rings := modifyAt s.rings b.stream fun ring => modifyAt ring b.ring f }

/-- Every buffer record of a stream changed. -/
def modifyRing (n : Fin 32) (f : Buffer → Buffer) (s : State) : State :=
  { s with rings := modifyAt s.rings n (mapTable f) }

/-- A stream context changed. -/
def modifyContext (n : Fin 32) (f : StreamContext → StreamContext) (s : State) : State :=
  { s with contexts := modifyAt s.contexts n f }

/-- A slot context changed. -/
def modifySlot (k : Fin 16) (f : SlotContext → SlotContext) (s : State) : State :=
  { s with slots := modifyAt s.slots k f }

/-- A slot's emission changed. -/
def modifyEmission (k : Fin 16) (f : EmissionUnit → EmissionUnit) (s : State) : State :=
  { s with emissions := modifyAt s.emissions k f }

/-- R56: the changes made whenever a buffer becomes EMPTY; the fill tag keeps its value. -/
def emptied (b : Buffer) : Buffer :=
  { b with state := .empty, sourceFrame := none, nextIndex := none, lastWords := none, burstCount := none, sequence := none,
           stamp := none, mediaError := false }

/-- A READY or SHOWN buffer (04, opening). -/
def Buffer.complete (b : Buffer) : Bool :=
  match b.state with
  | .ready => true
  | .shown => true
  | .empty => false
  | .filling => false
  | .sealing => false

/-- The entry fields of a stream. -/
def fieldsOf (s : State) (n : Fin 32) : StreamFields := s.entries[n].fields

/-- R34: the blocks of a stream's region. -/
def regionSize (f : StreamFields) : Nat := f.bufferSize * f.ringLength

/-- ACQUIRING, LOCKED or LOST: the stream takes bursts and its entry is in use (R37). -/
def inService (st : StreamState) : Bool :=
  match st with
  | .acquiring => true
  | .locked => true
  | .lost => true
  | .off => false
  | .closing => false

/-! ## Damage, purge, release (R71, R75, R77) -/

/-- R71: DAMAGED is counted and FRAME_DAMAGED raised. -/
def damage (n : Fin 32) (cause : Nat) (s : State) : State :=
  raise .frameDamaged n.val cause (countStream n .damaged s)

/-- R71: a buffer is abandoned for a cause. -/
def abandon (b : BufferName) (cause : Nat) (s : State) : State :=
  damage b.stream cause (modifyBuffer b emptied s)

/-- R75: a complete buffer that no slot holds becomes EMPTY. -/
def purged (b : Buffer) : Buffer :=
  if b.complete && b.holdCount == 0 then emptied b else b

/-- R52: a CLOSING stream goes to OFF once every hold count is 0 and its writes outstanding is 0. -/
def settleClosing (n : Fin 32) (s : State) : State :=
  if s.contexts[n].state = .closing ∧ s.contexts[n].writesOutstanding = 0 ∧
      s.rings[n].toList.all (fun b => b.holdCount == 0) = true then
    modifyContext n (fun c => { c with state := .off }) s
  else s

/-! ## Holds (R58) -/

/-- R58: a slot makes a buffer its current buffer. -/
def takeHold (b : BufferName) (s : State) : State :=
  modifyBuffer b
    (fun r => { r with holdCount := r.holdCount + 1, state := if r.state = .ready then .shown else r.state }) s

/-- R58, R78: a slot lets go of a buffer; in CLOSING the buffer whose hold count falls to 0 becomes EMPTY, and the stream may go
to OFF. -/
def letGo (b : BufferName) (s : State) : State :=
  let s1 := modifyBuffer b (fun r => { r with holdCount := r.holdCount - 1 }) s
  if s1.contexts[b.stream].state = .closing then
    settleClosing b.stream (if (bufferOf s1 b).holdCount = 0 then modifyBuffer b emptied s1 else s1)
  else s1

/-! ## The dispatcher's burst and the generator's abort (R8, R9, R11, R160) -/

/-- R8: the dispatcher has finished with the head burst of port `p`. -/
def finishBurst (p : Fin 4) (s : State) : State :=
  { s with
    ingress := modifyAt s.ingress p fun q => { q with fifo := q.fifo.tail }
    dispatcher := { pointer := nextIndex p, waiting := none } }

/-- R9: MISROUTES is counted and MISROUTE raised with the arrival port. -/
def misroute (p : Fin 4) (s : State) : State :=
  raise .misroute p.val 0 (countIngress p .misroutes s)

/-- R11: a wait of the dispatcher ends without acceptance; nothing is counted. -/
def discardWaiting (s : State) : State :=
  match s.dispatcher.waiting with
  | none => s
  | some p => finishBurst p s

/-- The head burst of an ingress FIFO. -/
def headBurst (s : State) (p : Fin 4) : Option Burst := s.ingress[p].fifo.head?

/-- The stream a media burst's tag names (R9). -/
def streamOfTag (tag : BitVec 6) : Fin 32 := ⟨tag.toNat % 32, Nat.mod_lt _ (by decide)⟩

/-- R11: at a stream's entry to CLOSING a burst of it that the dispatcher waits with is discarded as a misroute. -/
def misrouteWaiting (n : Fin 32) (s : State) : State :=
  match s.dispatcher.waiting with
  | none => s
  | some p =>
    match headBurst s p with
    | none => s
    | some b => if streamOfTag b.tag = n then misroute p (finishBurst p s) else s

/-- R165: TEST is raised by the generator with the stream fed. -/
def raiseGeneratorTest (cause : Nat) (s : State) : State :=
  match s.generator.stream with
  | none => s
  | some n => raise .test n.val cause s

/-- R160: the generator is aborted; a STOPPED generator is not touched. -/
def abortGenerator (s : State) : State :=
  if s.generator.state = .running then
    raiseGeneratorTest 1
      { s with generator :=
          { s.generator with
            state := .stopped, inProgress := false, stopRequested := false, waiting := none, frameStartDue := false } }
  else s

/-! ## Faults and SAFE (R168 to R170) -/

/-- R170: what the entry to SAFE does in its event. -/
def enterSafe (s : State) : State :=
  abortGenerator (discardWaiting { s with faults := { s.faults with double := true, mode := .safe } })

/-- R168: a minor fault arrives at the fault unit. -/
def minorFault (kind : FaultKind) (source : FaultSource) (index : Nat) (block : Option Nat) (s : State) : State :=
  if s.faults.minorHeld || s.faults.majorHeld || s.faults.double then s
  else
    raise .faultMinor index kind.code
      { s with faults :=
          { s.faults with
            minorHeld := true
            captured := some
              { kind := kind, source := source, index := index, block := block, tick := s.reference.tickNumber } } }

/-- R169: a major fault arrives at the fault unit. -/
def majorFault (kind : FaultKind) (source : FaultSource) (index : Nat) (block : Option Nat) (s : State) : State :=
  if s.faults.double then s
  else if s.faults.majorHeld then raise .faultDouble index kind.code (enterSafe s)
  else
    raise .faultMajor index kind.code
      { s with faults :=
          { s.faults with
            minorHeld := false
            majorHeld := true
            captured := some
              { kind := kind, source := source, index := index, block := block, tick := s.reference.tickNumber } } }

/-- R138: an access is judged at its completion by the worst memory word it met. -/
def judgeAccess (v : EccVerdict) (source : FaultSource) (index block : Nat) (s : State) : State :=
  match v with
  | .good => s
  | .corrected => minorFault .corrected source index (some block) (countMemory .corrected s)
  | .uncorrectable => majorFault .uncorrectable source index (some block) (countMemory .uncorrectable s)

/-! ## Entry to LOST and to CLOSING (R49, R51) -/

/-- R49, R75: a LOCKED stream goes to LOST, with cause 0 activity or 1 cadence, and its ring is purged. -/
def goLost (n : Fin 32) (cause : Nat) (s : State) : State :=
  modifyRing n purged
    (raise .streamLost n.val cause
      (modifyContext n
        (fun c =>
          { c with
            state := .lost, lockProgress := 0, cadenceRun := 0, windowTicks := 0, windowFrames := 0, activityDue := false }) s))

/-- R51: the context at the entry to CLOSING. -/
def closingContext (c : StreamContext) : StreamContext :=
  { c with state := .closing, measuring := false, intervalCounter := 0, lockProgress := 0, cadenceRun := 0, windowTicks := 0,
           windowFrames := 0, activityDue := false }

/-- R77: what the entry to CLOSING does to one buffer: FILLING and SEALING are abandoned as incomplete, an unheld complete
buffer becomes EMPTY. -/
def releaseBuffer (n : Fin 32) (i : Fin 8) (s : State) : State :=
  match (bufferOf s ⟨n, i⟩).state with
  | .filling => abandon ⟨n, i⟩ 4 s
  | .sealing => abandon ⟨n, i⟩ 4 s
  | .ready => modifyBuffer ⟨n, i⟩ purged s
  | .shown => modifyBuffer ⟨n, i⟩ purged s
  | .empty => s

/-- R51: a generator feeding the stream stops at once (R160). -/
def abortGeneratorOf (n : Fin 32) (s : State) : State :=
  if s.generator.stream = some n then abortGenerator s else s

/-- R51, R77, R52: a stream's entry to CLOSING, and to OFF when nothing holds it. -/
def enterClosing (n : Fin 32) (s : State) : State :=
  settleClosing n
    (misrouteWaiting n
      (abortGeneratorOf n
        (forEach (indexes 8) (releaseBuffer n) (modifyContext n closingContext s))))

/-- R37: a stream entry in use fails its parity check: TABLE_PARITY, and the stream goes to CLOSING. -/
def entryParityFailure (n : Fin 32) (s : State) : State :=
  enterClosing n (majorFault .tableParity .streamTable n.val none s)

/-! ## Reset held (R186) -/

/-- While RST_N is low the part is held in its reset values and takes part in nothing (R186). -/
def whileRunning (s : State) (f : State → State) : State :=
  if s.resetHeld.isSome then s else f s

end Sys2Proof.Machine
end

