-- ==== Sys2Proof/Machine/Checker.lean ====
section
/-! DEFINITION. Patterns (R154) and the pattern checker: how a word is judged, and what its taps pass (R161 to R163). -/

namespace Sys2Proof.Machine

/-! ## Patterns (R154) -/

/-- R154: one step of the PN shift register. -/
def pnStep (r : BitVec 23) : BitVec 23 :=
  (r <<< 1) ||| (if xor (r.getLsbD 22) (r.getLsbD 17) then 1#23 else 0#23)

/-- R154: the next PN word and the register after it: 32 steps, the first output bit in bit 31. -/
def pnWord (r : BitVec 23) : Word × BitVec 23 :=
  (List.range 32).foldl
    (fun acc _ => ((acc.1 <<< 1) ||| (if (pnStep acc.2).getLsbD 0 then 1#32 else 0#32), pnStep acc.2)) (0#32, r)

/-! ## Judging a word (R163) -/

/-- R163: how a word seeds the checker; with FILL it does not. -/
def seeded (c : Checker) (w : Word) : Checker :=
  match c.pattern with
  | .count => { c with expectation := some (.count (w + 1#32)) }
  | .pn => { c with expectation := some (.pn (w.extractLsb' 0 23)) }
  | .fill => c

/-- The word predicted by an expectation (R154, R163). -/
def predicted (c : Checker) : Option Word :=
  match c.pattern, c.expectation with
  | .fill, _ => some c.fillWord
  | _, some (.count v) => some v
  | _, some (.pn r) => some (pnWord r).1
  | _, none => none

/-- R163: the expectation advanced past the predicted word. -/
def advanced (c : Checker) : Checker :=
  match c.expectation with
  | some (.count v) => { c with expectation := some (.count (v + 1#32)) }
  | some (.pn r) => { c with expectation := some (.pn (pnWord r).2) }
  | none => c

/-- R163: a word judged in SEEKING. The second part is the cause of the TEST event raised, if any. -/
def judgeSeeking (c : Checker) (w : Word) : Checker × Option Nat :=
  match predicted c with
  | none => ({ seeded c w with matchRun := 0 }, none)
  | some p =>
    if w = p then
      if c.matchRun + 1 = 16 then
        ({ advanced c with matchRun := 16, state := .synced, mismatchRun := 0 }, some 2)
      else ({ advanced c with matchRun := c.matchRun + 1 }, none)
    else ({ seeded c w with matchRun := 0 }, none)

/-- R163: a word judged in SYNCED. WORDS and ERRORS follow the counter mode (R161). -/
def judgeSynced (mode : CounterMode) (c : Checker) (w : Word) : Checker × Option Nat :=
  let c1 := { c with words := bump mode c.words 1 }
  if some w = predicted c then ({ advanced c1 with mismatchRun := 0 }, none)
  else
    let c2 := { advanced c1 with errors := bump mode c.errors 1, mismatchRun := c.mismatchRun + 1 }
    if c.mismatchRun + 1 = 8 then
      ({ c2 with state := .seeking, expectation := none, matchRun := 0 }, some 3)
    else (c2, none)

/-- R163: the first word of a frame with restart at frame on: it reseeds and is not judged. -/
def reseed (c : Checker) (w : Word) : Checker :=
  match c.state with
  | .seeking => { seeded c w with matchRun := 0 }
  | .synced => seeded c w
  | .idle => c

/-- R163: one word passed by the tap; `first` tells the first word of a frame. -/
def judgeWord (mode : CounterMode) (first : Bool) (c : Checker) (w : Word) : Checker × Option Nat :=
  match c.state with
  | .idle => (c, none)
  | .seeking => if first && c.restartAtFrame then (reseed c w, none) else judgeSeeking c w
  | .synced => if first && c.restartAtFrame then (reseed c w, none) else judgeSynced mode c w

/-- R165: TEST is raised by the checker with the tap index. -/
def raiseCheckerTest (cause : Option Nat) (s : State) : State :=
  match cause with
  | none => s
  | some c => raise .test s.checker.tapIndex c s

/-- One word passed to the checker of the part. -/
def passWord (first : Bool) (w : Word) (s : State) : State :=
  let r := judgeWord s.counterMode first s.checker w
  raiseCheckerTest r.2 { s with checker := r.1 }

/-- R162: a frame begins at the first word of a START or SINGLE. -/
def beginsFrame (k : BurstKind) : Bool :=
  match k with
  | .startBurst => true
  | .singleBurst => true
  | .bodyBurst => false
  | .endBurst => false
  | .abortBurst => false
  | .requestBurst => false
  | .replyBurst => false

/-- R162: a frame ends after the last word of an END or SINGLE. -/
def endsFrame (k : BurstKind) : Bool :=
  match k with
  | .endBurst => true
  | .singleBurst => true
  | .startBurst => false
  | .bodyBurst => false
  | .abortBurst => false
  | .requestBurst => false
  | .replyBurst => false

/-- R163: at the end of a frame FRAMES is increased by one if the state is SYNCED at that point. -/
def endCheckedFrame (s : State) : State :=
  if s.checker.state = .synced then
    { s with checker := { s.checker with frames := bump s.counterMode s.checker.frames 1 } }
  else s

/-- R162, R163: the words of one burst judged in order. -/
def passBurst (kind : BurstKind) (words : List Word) (s : State) : State :=
  match words with
  | [] => s
  | w :: rest =>
    let s1 := forEach rest (passWord false) (passWord (beginsFrame kind) w s)
    if endsFrame kind then endCheckedFrame s1 else s1

/-- R162: the STREAM tap passes a burst that stream acceptance appends, its words as received. -/
def tapStream (n : Fin 32) (kind : BurstKind) (words : List Word) (s : State) : State :=
  if s.checker.tap = .stream ∧ s.checker.tapIndex = n.val then passBurst kind words s else s

/-- R162: the SLOT tap passes a burst at its completion event, sent or discarded. -/
def tapSlot (k : Fin 16) (kind : BurstKind) (words : List Word) (s : State) : State :=
  if s.checker.tap = .slot ∧ s.checker.tapIndex = k.val then passBurst kind words s else s

end Sys2Proof.Machine
end

