-- ==== Sys2Proof/Machine/Streams.lean ====
section
/-! DEFINITION. Stream acceptance (R60): the stream context's work at a frame start (R41 to R50) and the frame ring's work on a burst
(R61 to R71); the commands ACTIVITY_JUDGEMENT and INTERVAL_OVERFLOW. -/

namespace Sys2Proof.Machine

/-! ## The stream context at a frame start (R41) -/

/-- R50: the frame number is compared with last source frame number + 1, modulo 65536, when gap check is on and a last one is
present. -/
def frameGap (f : StreamFields) (last : Option (BitVec 16)) (frame : BitVec 16) : Bool :=
  match last with
  | none => false
  | some l => f.gapCheck && frame != l + 1#16

/-- R50: the gap check; last source frame number is then set whatever the setting. -/
def gapCheck (n : Fin 32) (frame : BitVec 16) (s : State) : State :=
  modifyContext n (fun c => { c with lastFrameNumber := some frame })
    (if frameGap (fieldsOf s n) s.contexts[n].lastFrameNumber frame then countStream n .gaps s else s)

/-- R44: the rate class of an interval against P and T in force. -/
def rateOf (p : RefParams) (interval : Nat) : RateClass :=
  if interval + p.tolerance < p.period then .fast
  else if interval ≤ p.period + p.tolerance then .matched
  else .slow

/-- R43: the context with an interval captured. -/
def captured (p : RefParams) (c : StreamContext) : StreamContext :=
  if c.measuring then
    { c with
      lastInterval := some c.intervalCounter
      intervalMin := some (match c.intervalMin with | none => c.intervalCounter | some m => min m c.intervalCounter)
      intervalMax := some (match c.intervalMax with | none => c.intervalCounter | some m => max m c.intervalCounter)
      rateClass := some (rateOf p c.intervalCounter)
      intervalCounter := 0 }
  else { c with measuring := true, intervalCounter := 0 }

/-- R45: an interval in window. The sentinel FFFFFFh is out of window. -/
def inWindow (f : StreamFields) (interval : Nat) : Bool :=
  decide (f.windowMin ≤ interval) && decide (interval ≤ f.windowMax) && interval != Config.intervalMax

/-- R45: the entry to LOCKED. -/
def goLocked (n : Fin 32) (s : State) : State :=
  raise .streamLocked n.val 0
    (modifyContext n
      (fun c =>
        { c with state := .locked, cadenceRun := 0, windowTicks := 0, windowFrames := 0, activityDue := false }) s)

/-- R45: a measured interval judged in ACQUIRING or LOST. -/
def judgeToLock (n : Fin 32) (interval : Nat) (s : State) : State :=
  if inWindow (fieldsOf s n) interval then
    let s1 := modifyContext n (fun c => { c with lockProgress := c.lockProgress + 1 }) s
    if (fieldsOf s n).lockCount ≤ s1.contexts[n].lockProgress then goLocked n s1 else s1
  else modifyContext n (fun c => { c with lockProgress := 0 }) s

/-- R46: a measured interval judged in LOCKED. -/
def judgeCadence (n : Fin 32) (interval : Nat) (s : State) : State :=
  if inWindow (fieldsOf s n) interval then modifyContext n (fun c => { c with cadenceRun := 0 }) s
  else
    let s1 := countStream n .cadenceErrors (modifyContext n (fun c => { c with cadenceRun := c.cadenceRun + 1 }) s)
    if (fieldsOf s n).cadenceLimit ≤ s1.contexts[n].cadenceRun then goLost n 1 s1 else s1

/-- R41 step 4: the judgement of a measured interval by the state. -/
def judgeInterval (n : Fin 32) (interval : Nat) (s : State) : State :=
  match s.contexts[n].state with
  | .acquiring => judgeToLock n interval s
  | .lost => judgeToLock n interval s
  | .locked => judgeCadence n interval s
  | .off => s
  | .closing => s

/-- R41 steps 1 to 4: the stream context acts before the frame ring. -/
def frameStartContext (n : Fin 32) (frame : BitVec 16) (s : State) : State :=
  let s1 := gapCheck n frame (modifyContext n (fun c => { c with refusing := false }) s)
  let before := s1.contexts[n]
  let s2 := modifyContext n (captured s1.reference.params) s1
  if before.measuring then judgeInterval n before.intervalCounter s2 else s2

/-! ## The frame ring (R61 to R71) -/

/-- R61: the four bytes of a word reversed. -/
def swapBytes (w : Word) : Word :=
  (w.extractLsb' 0 8 ++ w.extractLsb' 8 8 ++ w.extractLsb' 16 8 ++ w.extractLsb' 24 8 : BitVec 32)

/-- R61: the payload after the word-order step. -/
def orderedPayload (o : WordOrder) (ws : List Word) : List Word :=
  match o with
  | .normal => ws
  | .swapped => ws.map swapBytes

/-- R34, R56: the first block of a buffer. -/
def bufferBase (f : StreamFields) (i : Fin 8) : Nat := f.regionBase + i.val * f.bufferSize

/-- R61: the write queue entry of a burst of the frame in buffer `i`. -/
def writeEntryOf (s : State) (n : Fin 32) (i : Fin 8) (b : Burst) (last : Bool) : WriteEntry :=
  { stream := n, buffer := i, fillTag := (bufferOf s ⟨n, i⟩).fillTag, target := bufferBase (fieldsOf s n) i + b.index,
    payload := orderedPayload (fieldsOf s n).wordOrder b.payload, lastBurst := last, state := .queued }

/-- R61, R53, R162: the append to the write queue; writes outstanding rises by one, and the checker's STREAM tap sees the burst. -/
def appendWrite (n : Fin 32) (i : Fin 8) (b : Burst) (last : Bool) (s : State) : State :=
  tapStream n b.kind b.payload
    (modifyContext n (fun c => { c with writesOutstanding := c.writesOutstanding + 1 })
      { s with writeQueue := s.writeQueue ++ [writeEntryOf s n i b last] })

/-- The buffer of a stream that is FILLING, if any (R62, R68). -/
def fillingBuffer (s : State) (n : Fin 32) : Option (Fin 8) :=
  (indexes 8).find? fun i => (bufferOf s ⟨n, i⟩).state == .filling

/-- R63: the checks of a frame start; the cause code of the first that fails. -/
def frameStartFault (f : StreamFields) (b : Burst) : Option Nat :=
  if b.index ≠ 0 then some 0
  else if b.kind = .startBurst ∧ b.payload.length ≠ 64 then some 1
  else if b.kind = .singleBurst ∧ f.expectedBursts ≠ 0 ∧ f.expectedBursts ≠ 1 then some 1
  else none

/-- R64: the age of a sequence, counted from the stream's completion sequence counter backward. -/
def sequenceAge (counter : BitVec 32) (b : Buffer) : Nat := (counter - b.sequence.getD 0).toNat

/-- The ring indexes of a stream, in order (R56). -/
def ringIndexes (f : StreamFields) : List (Fin 8) := (indexes 8).filter fun i => decide (i.val < f.ringLength)

/-- R64 step 2: among the indexes given, the complete unheld buffer with the oldest sequence. -/
def oldestUnheld (s : State) (n : Fin 32) (is : List (Fin 8)) : Option (Fin 8) :=
  is.foldl
    (fun best i =>
      let r := bufferOf s ⟨n, i⟩
      if r.complete && r.holdCount == 0 then
        match best with
        | none => some i
        | some j =>
          if sequenceAge s.contexts[n].sequenceCounter (bufferOf s ⟨n, j⟩) < sequenceAge s.contexts[n].sequenceCounter r then some i
          else some j
      else best)
    none

/-- R64: the target of a frame start. -/
def chooseTarget (s : State) (n : Fin 32) : Option (Fin 8) :=
  let is := ringIndexes (fieldsOf s n)
  match is.find? (fun i => (bufferOf s ⟨n, i⟩).state == .empty) with
  | some i => some i
  | none => oldestUnheld s n is

/-- R65: the record set up for the new frame. -/
def filledRecord (tag : BitVec 8) (frame : BitVec 16) (r : Buffer) : Buffer :=
  { r with state := .filling, fillTag := tag, sourceFrame := some frame, nextIndex := some 1, sequence := none, stamp := none,
           lastWords := none, burstCount := none, mediaError := false }

/-- R70: the record sealed by an END or SINGLE. -/
def sealedRecord (b : Burst) (r : Buffer) : Buffer :=
  { r with state := .sealing, lastWords := some b.payload.length, burstCount := some (b.index + 1), nextIndex := none }

/-- R70: an END or SINGLE seals the frame. -/
def sealFrame (n : Fin 32) (i : Fin 8) (b : Burst) (s : State) : State :=
  appendWrite n i b true (modifyBuffer ⟨n, i⟩ (sealedRecord b) s)

/-- R65, R57: the chosen target enters FILLING; a reclaimed READY frame counts DROPPED. A SINGLE goes on to SEALING (R70). -/
def claimTarget (n : Fin 32) (i : Fin 8) (b : Burst) (s : State) : State :=
  let s1 := if (bufferOf s ⟨n, i⟩).state = .ready then countStream n .dropped s else s
  let s2 := modifyContext n (fun c => { c with fillTagCounter := c.fillTagCounter + 1#8 })
    (modifyBuffer ⟨n, i⟩ (filledRecord s.contexts[n].fillTagCounter b.frameNumber) s1)
  if b.kind = .singleBurst then sealFrame n i b s2 else appendWrite n i b false s2

/-- R66: a frame start that finds no buffer is refused. -/
def refuseFrame (n : Fin 32) (s : State) : State :=
  raise .ringStarved n.val 0
    (modifyContext n (fun c => { c with refusing := true }) (countStream n .refused s))

/-- R62 to R66: the ring's work at a frame start. -/
def ringFrameStart (n : Fin 32) (b : Burst) (s : State) : State :=
  let s1 :=
    match fillingBuffer s n with
    | none => s
    | some i => abandon ⟨n, i⟩ 4 s
  match frameStartFault (fieldsOf s1 n) b with
  | some cause => damage n cause s1
  | none =>
    match chooseTarget s1 n with
    | some i => claimTarget n i b s1
    | none => refuseFrame n s1

/-- R68: the checks of a BODY or END against the FILLING buffer; the cause code of the first that fails. -/
def continuationFault (f : StreamFields) (r : Buffer) (b : Burst) : Option Nat :=
  if some b.index ≠ r.nextIndex then some 0
  else if f.expectedBursts ≠ 0 ∧ f.expectedBursts ≤ b.index then some 2
  else if f.bufferSize ≤ b.index then some 3
  else if b.kind = .bodyBurst ∧ b.payload.length ≠ 64 then some 1
  else if b.kind = .endBurst ∧ f.expectedBursts ≠ 0 ∧ b.index + 1 < f.expectedBursts then some 1
  else none

/-- R67 to R70: the ring's work on a BODY or END. -/
def ringContinue (n : Fin 32) (b : Burst) (s : State) : State :=
  match fillingBuffer s n with
  | none => countStream n .orphans s
  | some i =>
    match continuationFault (fieldsOf s n) (bufferOf s ⟨n, i⟩) b with
    | some cause => abandon ⟨n, i⟩ cause s
    | none =>
      if b.kind = .endBurst then sealFrame n i b s
      else
        appendWrite n i b false
          (modifyBuffer ⟨n, i⟩ (fun r => { r with nextIndex := r.nextIndex.map (· + 1) }) s)

/-- R60: the taking of a media burst by stream acceptance, one event. The caller has found a free write queue entry. -/
def acceptBurst (n : Fin 32) (b : Burst) (s : State) : State :=
  if beginsFrame b.kind then ringFrameStart n b (frameStartContext n b.frameNumber s)
  else ringContinue n b s

/-- R60: the write queue has at least one free entry. -/
def writeQueueHasRoom (s : State) : Bool := decide (s.writeQueue.length < Config.writeQueueSize)

/-! ## ACTIVITY_JUDGEMENT (R47) -/

/-- R47: a tick increments the window tick count of a LOCKED stream; a count that has then reached the activity window makes the
judgement due. -/
def tickedContext (f : StreamFields) (c : StreamContext) : StreamContext :=
  if c.state = .locked then
    { c with windowTicks := c.windowTicks + 1, activityDue := decide (f.activityWindow ≤ c.windowTicks + 1) }
  else c

/-- R47: a stream's own count at a tick. -/
def countTick (n : Fin 32) (s : State) : State := modifyContext n (tickedContext (fieldsOf s n)) s

/-- R47: a tick has found the window of a LOCKED stream full, and its judgement is still to come. -/
def judgementDue (s : State) (n : Fin 32) : Bool :=
  s.contexts[n].state == .locked && s.contexts[n].activityDue

/-- R47: the activity judgement; both window counts are then 0. -/
def judgeActivity (n : Fin 32) (s : State) : State :=
  if judgementDue s n then
    if s.contexts[n].windowFrames < (fieldsOf s n).activityThreshold then goLost n 0 s
    else modifyContext n (fun c => { c with windowTicks := 0, windowFrames := 0, activityDue := false }) s
  else s

/-- ACTIVITY_JUDGEMENT (R47). -/
def execActivityJudgement (n : Fin 32) (s : State) : Host.Outcome State Fault Refusal :=
  .next (whileRunning s (judgeActivity n))

/-! ## INTERVAL_OVERFLOW (R42) -/

/-- R42: INTERVAL_OVERFLOW is raised once when the counter has reached FFFFFFh. -/
def overflowInterval (n : Fin 32) (s : State) : State :=
  if s.contexts[n].overflowDue then
    raise .intervalOverflow n.val 0 (modifyContext n (fun c => { c with overflowDue := false }) s)
  else s

/-- INTERVAL_OVERFLOW (R42). -/
def execIntervalOverflow (n : Fin 32) (s : State) : Host.Outcome State Fault Refusal :=
  .next (whileRunning s (overflowInterval n))

end Sys2Proof.Machine
end

