-- ==== Sys2Proof/Machine/Emission.lean ====
section
/-! DEFINITION. Emission (06): the slot FIFO's fill, substitute blocks, the begin of an emission, the late abort, and the bursts
formed from blocks and abort records. -/

namespace Sys2Proof.Machine

/-- R112: the fill: the entries plus one for a read in flight. -/
def fifoFill (u : EmissionUnit) : Nat := u.fifo.length + (if u.readInFlight.isSome then 1 else 0)

/-! ## Substitute payload (R118) -/

/-- R118: the 64 words of the substitute block at a position. -/
def substituteWords (r : EmissionRecord) (position : Nat) : List Word :=
  match r.sourceKind with
  | some .ramp => (List.range 64).map fun w => num (64 * position + w)
  | some .fill => List.replicate 64 (r.fillWord.getD 0)
  | some .frame => []
  | none => []

/-- R118: whether a record is of an ACTIVE FILL or RAMP emission. -/
def substituteActive (r : EmissionRecord) : Bool :=
  r.status == .active && (r.sourceKind == some .fill || r.sourceKind == some .ramp)

/-- R118: how many blocks a substitute emission places: until the fill reaches 8 or every block has been made. -/
def blocksToPlace (u : EmissionUnit) : Nat :=
  min (Config.slotFifoSize - fifoFill u) (u.record.burstsTotal - u.record.blocksRequested)

/-- R118: a substitute block, HELD and never marked with a media error. -/
def substituteBlock (r : EmissionRecord) (position : Nat) : BlockEntry :=
  { position := position, words := substituteWords r position, mediaError := false, owner := .activeEmission, state := .held }

/-- R118: an ACTIVE FILL or RAMP emission places its next blocks. -/
def refill (u : EmissionUnit) : EmissionUnit :=
  if substituteActive u.record then
    { u with
      fifo := u.fifo ++ (List.range (blocksToPlace u)).map fun j => substituteBlock u.record (u.record.blocksRequested + j)
      record := { u.record with blocksRequested := u.record.blocksRequested + blocksToPlace u } }
  else u

/-! ## The begin (R102, R103, R111, R114) -/

/-- R114: the record of a FRAME emission of a buffer. The base block is taken from the entry of the buffer's stream (R111). -/
def frameRecord (s : State) (k : Fin 16) (b : BufferName) (isRepeat : Bool) : EmissionRecord :=
  let r := bufferOf s b
  { status := .active, sourceKind := some .frame, buffer := some b, fillTag := some r.fillTag,
    baseBlock := some (bufferBase (fieldsOf s b.stream) b.ring), lastWords := r.lastWords, fillWord := none,
    burstsTotal := r.burstCount.getD 0, blocksRequested := 0, burstsSent := 0, outputFrame := s.slots[k].outputFrame,
    egressPort := s.routes[k].active.fields.egressPort, outputTag := s.routes[k].active.fields.outputTag, isRepeat := isRepeat }

/-- R101, R114: the record of a FILL or RAMP emission; none for BLANK. -/
def substituteRecord (s : State) (k : Fin 16) : Option EmissionRecord :=
  let f := s.routes[k].active.fields
  let record (kind : SourceKind) (word : Option Word) : EmissionRecord :=
    { status := .active, sourceKind := some kind, buffer := none, fillTag := none, baseBlock := none, lastWords := some 64,
      fillWord := word, burstsTotal := f.fillLength, blocksRequested := 0, burstsSent := 0,
      outputFrame := s.slots[k].outputFrame, egressPort := f.egressPort, outputTag := f.outputTag, isRepeat := false }
  match f.substKind with
  | .fill => some (record .fill (some f.fillWord))
  | .ramp => some (record .ramp none)
  | .blank => none

/-- R103, R104, R114: an emission is begun: EMITTED counts, the output frame counter advances, the record replaces the earlier one
and a substitute places its first blocks. -/
def beginEmission (k : Fin 16) (r : EmissionRecord) (s : State) : State :=
  modifyEmission k (fun u => refill { u with record := r })
    (modifySlot k (fun c => { c with outputFrame := c.outputFrame + 1#16 }) (countSlot k .emitted 1 s))

/-- R102: a FRAME emission of a buffer is begun. -/
def emitFrame (k : Fin 16) (b : BufferName) (isRepeat : Bool) (s : State) : State :=
  beginEmission k (frameRecord s k b isRepeat) s

/-- R101, R102: the substitute of the active entry is begun, if it is not BLANK. -/
def emitSubstitute (k : Fin 16) (s : State) : State :=
  match substituteRecord s k with
  | none => s
  | some r => beginEmission k r s

/-! ## The late abort (R122 to R124) -/

/-- R123: the abort record of the port at the cut: a record already present stays. -/
def abortAtCut (r : EmissionRecord) (old : Option AbortRecord) : Option AbortRecord :=
  match old with
  | some a => some a
  | none => some { outputTag := r.outputTag, outputFrame := r.outputFrame, index := r.burstsSent }

/-- R122: what the cut does to the slot's emission: HELD entries leave, entries IN_TRANSMISSION and the read in flight pass to the
cut emission, and the abort record is formed. -/
def cutEmission (u : EmissionUnit) : EmissionUnit :=
  { record := { u.record with status := .cut }
    fifo := (u.fifo.filter fun e => e.state != .held).map fun e => { e with owner := .cutEmission }
    readInFlight := u.readInFlight.map fun r => { r with owner := .cutEmission }
    aborts := modifyAt u.aborts u.record.egressPort (abortAtCut u.record) }

/-- R122, R126: an emission still ACTIVE at its slot's tick is cut off; LATE counts and SLOT_LATE is raised. -/
def cutIfLate (k : Fin 16) (s : State) : State :=
  if s.emissions[k].record.status = .active then
    raise .slotLate k.val 0 (countSlot k .late 1 (modifyEmission k cutEmission s))
  else s

/-! ## Bursts (R120, R123) -/

/-- R120: the kind of the burst at a position. -/
def kindAt (position total : Nat) : BurstKind :=
  if total = 1 then .singleBurst
  else if position = 0 then .startBurst
  else if position + 1 = total then .endBurst
  else .bodyBurst

/-- R120: the payload length of the burst at a position. -/
def lengthAt (r : EmissionRecord) (position : Nat) : Nat :=
  if position + 1 = r.burstsTotal then r.lastWords.getD 64 else 64

/-- R120: the burst formed from the record and a FIFO entry. -/
def burstOfBlock (r : EmissionRecord) (e : BlockEntry) : Burst :=
  { tag := r.outputTag, kind := kindAt e.position r.burstsTotal, repeatFlag := r.isRepeat,
    substFlag := r.sourceKind == some .fill || r.sourceKind == some .ramp, mediaErrFlag := e.mediaError, index := e.position,
    frameNumber := r.outputFrame, payload := e.words.take (lengthAt r e.position) }

/-- R123: the ABORT burst of an abort record. -/
def burstOfAbort (a : AbortRecord) : Burst :=
  { tag := a.outputTag, kind := .abortBurst, repeatFlag := false, substFlag := false, mediaErrFlag := false, index := a.index,
    frameNumber := a.outputFrame, payload := [] }

end Sys2Proof.Machine
end

