-- ==== Sys2Proof/Machine/Arbiter.lean ====
section
/-! DEFINITION. Frame memory's accesses (07): MEMORY_GRANT (R134 to R136), WRITE_COMPLETION (R133, R72, R73),
SLOT_READ_COMPLETION (R116, R117, R124), MANAGEMENT_ACCESS_COMPLETION (R139, R140), REFRESH_COMPLETION and
REFRESH_TIMER_EXPIRY (R137). -/

namespace Sys2Proof.Machine

/-- The arbiter changed. -/
def modifyArbiter (f : Arbiter → Arbiter) (s : State) : State := { s with arbiter := f s.arbiter }

/-! ## Claims (R134) -/

/-- R115: the reader's claim stands. -/
def readerClaims (a : Arbiter) (u : EmissionUnit) : Bool :=
  u.record.status == .active && u.record.sourceKind == some .frame
    && decide (u.record.blocksRequested < u.record.burstsTotal)
    && u.readInFlight.isNone && decide (fifoFill u ≤ a.lowMark)

/-- R115: the claim is urgent when the fill is also at or below the urgent mark. -/
def readerUrgent (a : Arbiter) (u : EmissionUnit) : Bool :=
  readerClaims a u && decide (fifoFill u ≤ a.urgentMark)

/-- R134: the write queue holds a QUEUED entry and none is WRITING. -/
def ingressClaims (s : State) : Bool :=
  s.writeQueue.any (fun e => e.state == .queued) && !s.writeQueue.any (fun e => e.state == .writing)

/-- R132, R134: the write queue's claim is urgent. -/
def ingressUrgent (s : State) : Bool :=
  ingressClaims s && decide (Config.writeQueueUrgent ≤ s.writeQueue.length)

/-- R134, R180: the executor waits for its memory access. -/
def mgmtClaims (s : State) : Bool :=
  match s.executor with
  | .waitMemory _ => s.arbiter.access != some .mgmt
  | .idle => false
  | .executing => false
  | .waitReplySpace _ => false

/-- R134: refresh owed is 1 or more. -/
def refreshClaims (s : State) : Bool := decide (1 ≤ s.arbiter.refreshOwed)

/-- R134: refresh owed is 8. -/
def refreshUrgent (s : State) : Bool := decide (Config.refreshOwedMax ≤ s.arbiter.refreshOwed)

/-! ## The choice (R135, R136) -/

/-- R136: the first slot whose claim stands at a level, searching from the slot after the pointer. -/
def nextReader (s : State) (claims : EmissionUnit → Bool) : Option (Fin 16) :=
  (roundFrom (nextIndex s.arbiter.egressPointer)).find? fun k => claims s.emissions[k]

/-- R135, 12.5: the kinds in the programmed order. -/
def kindsInOrder (o : ArbOrder) : List ClaimKind :=
  match o with
  | .egressIngressMgmt => [.egress, .ingress, .mgmt]
  | .egressMgmtIngress => [.egress, .mgmt, .ingress]
  | .ingressEgressMgmt => [.ingress, .egress, .mgmt]
  | .ingressMgmtEgress => [.ingress, .mgmt, .egress]
  | .mgmtEgressIngress => [.mgmt, .egress, .ingress]
  | .mgmtIngressEgress => [.mgmt, .ingress, .egress]

/-- R135 step 2: the urgent claim of a kind; MGMT is never urgent. -/
def urgentClaim (s : State) (kind : ClaimKind) : Option Access :=
  match kind with
  | .ingress => if ingressUrgent s then some .ingress else none
  | .egress => (nextReader s (readerUrgent s.arbiter)).map Access.egress
  | .mgmt => none

/-- R135 step 3: the claim of a kind. No urgent claim stands when it is asked for. -/
def normalClaim (s : State) (kind : ClaimKind) : Option Access :=
  match kind with
  | .ingress => if ingressClaims s then some .ingress else none
  | .egress => (nextReader s (readerClaims s.arbiter)).map Access.egress
  | .mgmt => if mgmtClaims s then some .mgmt else none

/-- R135: the claim that the arbiter takes. -/
def chooseClaim (s : State) : Option Access :=
  if refreshUrgent s then some .refresh
  else
    match (kindsInOrder s.arbiter.order).findSome? (urgentClaim s) with
    | some a => some a
    | none =>
      match (kindsInOrder s.arbiter.order).findSome? (normalClaim s) with
      | some a => some a
      | none => if refreshClaims s then some .refresh else none

/-! ## MEMORY_GRANT (R135) -/

/-- R133: the head entry becomes WRITING. -/
def startWrite (q : List WriteEntry) : List WriteEntry :=
  match q with
  | [] => []
  | e :: rest => { e with state := .writing } :: rest

/-- R115: the read granted becomes the read in flight. -/
def startRead (u : EmissionUnit) : EmissionUnit :=
  { u with
    record := { u.record with blocksRequested := u.record.blocksRequested + 1 }
    readInFlight := some
      { buffer := u.record.buffer.getD ⟨0, 0⟩, fillTag := u.record.fillTag.getD 0,
        block := u.record.baseBlock.getD 0 + u.record.blocksRequested, owner := .activeEmission } }

/-- R135: memory becomes BUSY and the claimant granted starts its access. -/
def startAccess (a : Access) (s : State) : State :=
  let s1 := modifyArbiter (fun b => { b with access := some a }) s
  match a with
  | .ingress => { s1 with writeQueue := startWrite s1.writeQueue }
  | .egress k => modifyEmission k startRead (modifyArbiter (fun b => { b with egressPointer := k }) s1)
  | .mgmt => s1
  | .refresh => s1

/-- R135: memory is IDLE and a claim stands. -/
def grantDue (s : State) : Bool := s.arbiter.access.isNone && (chooseClaim s).isSome

/-- R135: while memory is IDLE and a claim stands, one claim is granted. -/
def grantMemory (s : State) : State :=
  if s.arbiter.access.isNone then
    match chooseClaim s with
    | none => s
    | some a => startAccess a s
  else s

/-- MEMORY_GRANT (R135). -/
def execMemoryGrant (s : State) : Host.Outcome State Fault Refusal :=
  .next (whileRunning s grantMemory)

/-- Memory returns to IDLE at a completion event (R135). -/
def endAccess (s : State) : State := modifyArbiter (fun b => { b with access := none }) s

/-! ## WRITE_COMPLETION (R133, R72, R73) -/

/-- R72: the record of a frame that completes. -/
def completedRecord (sequence stamp : BitVec 32) (r : Buffer) : Buffer :=
  { r with state := .ready, sequence := some sequence, stamp := some stamp }

/-- R48: the window frame count, up to 15, where it stops. -/
def countedFrame (c : StreamContext) : StreamContext :=
  { c with windowFrames := if c.windowFrames < 15 then c.windowFrames + 1 else c.windowFrames }

/-- R72: the frame in a SEALING buffer completes. -/
def completeFrame (b : BufferName) (s : State) : State :=
  let sequence := s.contexts[b.stream].sequenceCounter + 1#32
  countStream b.stream .accepted
    (modifyBuffer b (completedRecord sequence s.reference.tickNumber)
      (modifyContext b.stream (fun c => countedFrame { c with sequenceCounter := sequence }) s))

/-- R72, R73: the ring is given the completion of a write entry. -/
def ringCompletion (e : WriteEntry) (s : State) : State :=
  let r := bufferOf s ⟨e.stream, e.buffer⟩
  if e.lastBurst = true ∧ r.state = .sealing ∧ r.fillTag = e.fillTag then completeFrame ⟨e.stream, e.buffer⟩ s else s

/-- R133: the completion event of the head write. Where its uncorrectable merge makes the part enter SAFE, a burst that waits for space
is discarded in this event: R11 and R158 let the space or SAFE come first, and that SAFE comes first is the model's choice (log entry
31). -/
def completeWrite (e : WriteEntry) (rest : List WriteEntry) (s : State) : State :=
  let verdict := s.memory.mergeVerdict (64 * e.target) e.payload.length
  let s1 := endAccess { s with memory := s.memory.store (64 * e.target) e.payload, writeQueue := rest }
  let s2 := modifyContext e.stream (fun c => { c with writesOutstanding := c.writesOutstanding - 1 }) s1
  judgeAccess verdict .writeQueue e.stream.val e.target (settleClosing e.stream (ringCompletion e s2))

/-- R133: a write is in progress. -/
def writeInProgress (s : State) : Option (WriteEntry × List WriteEntry) :=
  if s.arbiter.access = some .ingress then
    match s.writeQueue with
    | [] => none
    | e :: rest => some (e, rest)
  else none

/-- WRITE_COMPLETION (R133). -/
def execWriteCompletion (s : State) : Host.Outcome State Fault Refusal :=
  if s.resetHeld.isSome then .next s
  else
    match writeInProgress s with
    | none => .next s
    | some (e, rest) => if e.target < s.memory.blocks then .next (completeWrite e rest s) else .fault .noSuchBlock

/-! ## SLOT_READ_COMPLETION (R116, R117, R124) -/

/-- R79: the ring marks the buffer if it is complete and still has the fill tag reported. -/
def reportMediaError (r : SlotRead) (s : State) : State :=
  if (bufferOf s r.buffer).complete && (bufferOf s r.buffer).fillTag == r.fillTag then
    modifyBuffer r.buffer (fun b => { b with mediaError := true }) s
  else s

/-- R116, R124: what the slot's emission makes of the words read: a HELD entry for the active emission, nothing for a cut one, whose
freed place then serves the active emission (R118, R121). -/
def takeBlock (r : SlotRead) (words : List Word) (bad : Bool) (u : EmissionUnit) : EmissionUnit :=
  match r.owner with
  | .activeEmission =>
    { u with
      readInFlight := none
      fifo := u.fifo ++
        [{ position := u.record.blocksRequested - 1, words := words, mediaError := bad, owner := .activeEmission, state := .held }] }
  | .cutEmission => refill { u with readInFlight := none }

/-- R116, R117, R124, R138: the completion event of a slot read. -/
def completeSlotRead (k : Fin 16) (r : SlotRead) (s : State) : State :=
  let verdict := s.memory.worst (32 * r.block) 32
  let words := s.memory.deliverWords (64 * r.block) 64
  let s1 := modifyEmission k (takeBlock r words (verdict == .uncorrectable)) (endAccess s)
  judgeAccess verdict .slotReader k.val r.block (if verdict = .uncorrectable then reportMediaError r s1 else s1)

/-- R115: the slot read in progress. -/
def readInProgress (s : State) : Option (Fin 16 × SlotRead) :=
  match s.arbiter.access with
  | some (.egress k) => s.emissions[k].readInFlight.map fun r => (k, r)
  | some .ingress => none
  | some .mgmt => none
  | some .refresh => none
  | none => none

/-- SLOT_READ_COMPLETION (R116). -/
def execSlotReadCompletion (s : State) : Host.Outcome State Fault Refusal :=
  if s.resetHeld.isSome then .next s
  else
    match readInProgress s with
    | none => .next s
    | some (k, r) => if r.block < s.memory.blocks then .next (completeSlotRead k r s) else .fault .noSuchBlock

/-! ## MANAGEMENT_ACCESS_COMPLETION (R139, R140, R180) -/

/-- R182: the executor offers a reply: it joins the tail of the reply queue, or the executor waits with it. After the reply to
ResetPart the executor stays EXECUTING (R185). -/
def offerReply (r : Reply) (s : State) : State :=
  if s.replyQueue.length < Config.replyQueueSize then
    { s with replyQueue := s.replyQueue ++ [r], executor := if r.isResetPart then .executing else .idle }
  else { s with executor := .waitReplySpace r }

/-- R139, R140: the reply at the completion: the words read, MEDIA_ERROR, or OK. -/
def memoryReply (m : FrameMemory) (j : MemoryJob) (verdict : EccVerdict) : Reply :=
  match j.data with
  | some _ => { tag := j.tag, code := j.code, status := .ok, reason := 0, results := [] }
  | none =>
    if verdict = .uncorrectable then { tag := j.tag, code := j.code, status := .mediaError, reason := 0, results := [] }
    else { tag := j.tag, code := j.code, status := .ok, reason := 0, results := m.deliverWords j.address j.count }

/-- R138 to R140: the verdict of a management access: all memory words read, or those merged by a write. -/
def memoryJobVerdict (m : FrameMemory) (j : MemoryJob) : EccVerdict :=
  match j.data with
  | some ws => m.mergeVerdict j.address ws.length
  | none => m.worst (j.address / 2) (memoryWordSpan j.address j.count)

/-- R140: the memory after the access. -/
def memoryAfter (m : FrameMemory) (j : MemoryJob) : FrameMemory :=
  match j.data with
  | some ws => m.store j.address ws
  | none => m

/-- R139, R140: the completion event of a management access. The block address of a fault is that of the first block (R138). -/
def completeManagement (j : MemoryJob) (s : State) : State :=
  offerReply (memoryReply s.memory j (memoryJobVerdict s.memory j))
    (judgeAccess (memoryJobVerdict s.memory j) .management 0 (j.address / 64)
      (endAccess { s with memory := memoryAfter s.memory j }))

/-- R180: the memory request whose access is in progress. -/
def managementInProgress (s : State) : Option MemoryJob :=
  if s.arbiter.access = some .mgmt then
    match s.executor with
    | .waitMemory j => some j
    | .idle => none
    | .executing => none
    | .waitReplySpace _ => none
  else none

/-- MANAGEMENT_ACCESS_COMPLETION (R139). -/
def execManagementAccessCompletion (s : State) : Host.Outcome State Fault Refusal :=
  if s.resetHeld.isSome then .next s
  else
    match managementInProgress s with
    | none => .next s
    | some j =>
      if j.address + j.count ≤ 64 * s.memory.blocks then .next (completeManagement j s) else .fault .noSuchBlock

/-! ## Refresh (R137) -/

/-- R137: at the refresh's completion refresh owed is decreased by one. -/
def completeRefresh (s : State) : State :=
  if s.arbiter.access = some .refresh then
    modifyArbiter (fun a => { a with refreshOwed := a.refreshOwed - 1 }) (endAccess s)
  else s

/-- REFRESH_COMPLETION (R137). -/
def execRefreshCompletion (s : State) : Host.Outcome State Fault Refusal :=
  .next (whileRunning s completeRefresh)

/-- R137: the timer's count has reached the refresh interval. -/
def refreshTimerDue (a : Arbiter) : Bool := decide (a.refreshInterval ≤ a.refreshTimer)

/-- R137: the expiry: the count is set to 0; refresh owed rises, or at 8 REFRESH_OVERDUE is raised. -/
def expireRefreshTimer (s : State) : State :=
  if refreshTimerDue s.arbiter then
    if s.arbiter.refreshOwed < Config.refreshOwedMax then
      modifyArbiter (fun a => { a with refreshTimer := 0, refreshOwed := a.refreshOwed + 1 }) s
    else majorFault .refreshOverdue .refresh 0 none (modifyArbiter (fun a => { a with refreshTimer := 0 }) s)
  else s

/-- REFRESH_TIMER_EXPIRY (R137). -/
def execRefreshTimerExpiry (s : State) : Host.Outcome State Fault Refusal :=
  .next (whileRunning s expireRefreshTimer)

end Sys2Proof.Machine
end

