-- ==== Sys2Proof/Machine/Resets.lean ====
section
/-! DEFINITION. The three resets (R186): POWER_ON_RESET, PIN_RESET_BEGIN, PIN_RESET, and the management reset that the completion of
ResetPart's reply brings (R185). -/

namespace Sys2Proof.Machine

/-- R143: the words and the word address of a write that a reset abandons, if one is in progress. -/
def abandonedWrite (s : State) : Option (Nat × List Word) :=
  match s.arbiter.access with
  | some .ingress =>
    match s.writeQueue with
    | [] => none
    | e :: _ => some (64 * e.target, e.payload)
  | some .mgmt =>
    match s.executor with
    | .waitMemory j => j.data.map fun ws => (j.address, ws)
    | .idle => none
    | .executing => none
    | .waitReplySpace _ => none
  | some (.egress _) => none
  | some .refresh => none
  | none => none

/-- R143: frame memory after a reset: kept, but for what an abandoned write may leave (free values, log entry 14). -/
def keptMemory (s : State) : FrameMemory :=
  match abandonedWrite s with
  | none => s.memory
  | some (a, ws) => s.memory.abandon s.freeCount a ws

/-- The draws of free values made by a reset. -/
def drawsAfter (s : State) : Nat :=
  match abandonedWrite s with
  | none => s.freeCount
  | some _ => s.freeCount + 1

/-- R186: every block takes its reset values; frame memory is kept; the queue of commands, the tape of upsets
and the clock on TBCLK are not the part's. -/
def resetBlocks (s : State) : State :=
  { State.reset with
    memory := keptMemory s
    timebaseRuns := s.timebaseRuns
    pending := s.pending
    upsets := s.upsets
    freeCount := drawsAfter s }

/-! ## POWER_ON_RESET -/

/-- R186: RST_N held low when the power-on reset ends prolongs it to RST_N's rise, with cause POWER_ON. -/
def heldAfterPowerOn (held : Option ResetCause) : Option ResetCause := held.map fun _ => .powerOn

/-- R131, R186: the power-on reset, which ends with TBCLK running: MEMSZ is sampled, frame memory holds whatever it holds. -/
def powerOn (memsz : BitVec 2) (cells : List Host.Cell) (badBits : List Nat) (s : State) : State :=
  { resetBlocks s with
    memory := { cells := cells, badBits := badBits, blocks := Config.blocksOfStrap memsz }
    lastResetCause := .powerOn
    resetHeld := heldAfterPowerOn s.resetHeld
    timebaseRuns := true }

/-- Cells put into the canonical form: the content is what reading them gives. -/
def canonicalCells (cells : List Host.Cell) : Memory :=
  cells.reverse.foldl (fun m c => Memory.write m c.1 c.2) []

/-- Bits in error put into rising order without repeats. -/
def canonicalBits (bits : List Nat) : List Nat :=
  bits.foldl (fun acc b => if acc.contains b then acc else toggleBadBit acc b) []

/-- POWER_ON_RESET (R186). -/
def execPowerOnReset (memsz : BitVec 2) (cells : List Host.Cell) (badBits : List Nat) (s : State) :
    Host.Outcome State Fault Refusal :=
  .next (powerOn memsz (canonicalCells cells) (canonicalBits badBits) s)

/-! ## PIN_RESET_BEGIN and PIN_RESET -/

/-- R186: RST_N goes low: the part is held in its reset values until it rises. A hold already begun goes on. -/
def beginPinReset (s : State) : State :=
  match s.resetHeld with
  | some _ => s
  | none => { resetBlocks s with lastResetCause := .pin, resetHeld := some .pin }

/-- PIN_RESET_BEGIN (R186). -/
def execPinResetBegin (s : State) : Host.Outcome State Fault Refusal :=
  .next (beginPinReset s)

/-- R131, R186: RST_N rises: the reset values stand, MEMSZ is sampled and the cause recorded: PIN, or POWER_ON when the hold
prolonged a power-on reset (log entry 21). What blocks hold that a larger MEMSZ adds to the size before is the model's choice (log
entry 33): what the cells already name there, else 0 with no bit in error; cells beyond a smaller MEMSZ are kept. -/
def endPinReset (memsz : BitVec 2) (s : State) : State :=
  { resetBlocks s with
    memory := { keptMemory s with blocks := Config.blocksOfStrap memsz }
    lastResetCause := s.resetHeld.getD .pin }

/-- PIN_RESET (R186). -/
def execPinReset (memsz : BitVec 2) (s : State) : Host.Outcome State Fault Refusal :=
  .next (endPinReset memsz s)

/-! ## The management reset (R185) -/

/-- 1.6: an ingress port's settings are kept, its FIFO is emptied. -/
def keptIngress (p : IngressPort) : IngressPort := { p with fifo := [] }

/-- 1.6, R18: an egress port's settings are kept; it is IDLE with its pointer at the reply queue position. -/
def keptEgress (p : EgressPort) : EgressPort := { p with pointer := 16, sending := none }

/-- R185, R186: the management reset keeps the port settings, the reply port and the memory size. -/
def managementReset (s : State) : State :=
  { resetBlocks s with
    ingress := mapTable keptIngress s.ingress
    egress := mapTable keptEgress s.egress
    replyPort := s.replyPort
    lastResetCause := .management }

end Sys2Proof.Machine
end

