-- ==== Sys2Proof/Machine/Egress.lean ====
section
/-! DEFINITION. The egress ports (R14 to R17, R119, R121): EGRESS_GRANT, EGRESS_BURST_COMPLETION and REPLY_SPACE_FREED (R182). -/

namespace Sys2Proof.Machine

/-- An egress port changed. -/
def modifyEgress (p : Fin 4) (f : EgressPort → EgressPort) (s : State) : State :=
  { s with egress := modifyAt s.egress p f }

/-! ## Participants (R14, R119) -/

/-- R119: the HELD entry of the active emission with the lowest burst position, when the emission's port is `p`. -/
def readyEntry (u : EmissionUnit) (p : Fin 4) : Option BlockEntry :=
  if u.record.status = .active ∧ u.record.egressPort = p then
    u.fifo.find? fun e => e.state == .held && e.owner == .activeEmission
  else none

/-- R14, R119: the slot has a burst ready for port `p`. -/
def slotReady (s : State) (k : Fin 16) (p : Fin 4) : Bool :=
  s.emissions[k].aborts[p].isSome || (readyEntry s.emissions[k] p).isSome

/-- The head reply is in transmission at some port: it is not granted again (log entry 18). -/
def replyInTransmission (s : State) : Bool :=
  s.egress.toList.any fun q =>
    match q.sending with
    | none => false
    | some t => t.participant == .reply

/-- R14: the reply queue takes part at the port that is the reply port at that moment, whenever it holds a reply. -/
def replyReady (s : State) (p : Fin 4) : Bool :=
  s.replyPort == p && !s.replyQueue.isEmpty && !replyInTransmission s

/-- R15: the positions of the round: 0 to 15 are the slots, 16 is the reply queue. -/
def slotOfPosition (i : Fin 17) : Option (Fin 16) := indexOf 16 i.val

/-- R14, R15: the participant at a position has a burst ready for port `p`. -/
def positionReady (s : State) (p : Fin 4) (i : Fin 17) : Bool :=
  match slotOfPosition i with
  | some k => slotReady s k p
  | none => replyReady s p

/-- R15: the first participant found searching forward from the position after the pointer. -/
def nextParticipant (s : State) (p : Fin 4) : Option (Fin 17) :=
  (roundFrom (nextIndex s.egress[p].pointer)).find? (positionReady s p)

/-! ## Taking a burst (R119, R120, R123) -/

/-- The entry granted becomes IN_TRANSMISSION: the first HELD entry of the active emission (R119). -/
def markTransmission (p : Fin 4) (fifo : List BlockEntry) : List BlockEntry :=
  match fifo with
  | [] => []
  | e :: rest =>
    if e.state = .held ∧ e.owner = .activeEmission then { e with state := .inTransmission p } :: rest
    else e :: markTransmission p rest

/-- R119: what the grant does to the slot's emission: the abort record is removed, or the entry is IN_TRANSMISSION. -/
def takenFrom (p : Fin 4) (u : EmissionUnit) : EmissionUnit :=
  if u.aborts[p].isSome then { u with aborts := u.aborts.set p none } else { u with fifo := markTransmission p u.fifo }

/-- R119: a slot's ready burst for port `p`, with what it comes from: an ABORT first. -/
def readyBurst (u : EmissionUnit) (k : Fin 16) (p : Fin 4) : Option (Participant × Burst) :=
  match u.aborts[p] with
  | some a => some (.slotAbort k, burstOfAbort a)
  | none => (readyEntry u p).map fun e => (.slotEntry k, burstOfBlock u.record e)

/-- R15, R16: the burst at a position, with what it comes from. -/
def burstAt (s : State) (p : Fin 4) (i : Fin 17) : Option (Participant × Burst) :=
  match slotOfPosition i with
  | some k => readyBurst s.emissions[k] k p
  | none => s.replyQueue.head?.map fun r => (.reply, replyBurst r)

/-- R15, R119: the pointer moves to the granted position and the burst is taken. -/
def takeBurst (p : Fin 4) (i : Fin 17) (s : State) : State :=
  let s1 := modifyEgress p (fun q => { q with pointer := i }) s
  match slotOfPosition i with
  | some k => modifyEmission k (takenFrom p) s1
  | none => s1

/-! ## Completion events (R16, R17, R121, R182) -/

/-- R121: the entry in transmission at the port leaves the slot FIFO. -/
def withoutEntry (p : Fin 4) (fifo : List BlockEntry) : List BlockEntry :=
  fifo.filter fun e => e.state != .inTransmission p

/-- R121: the entry in transmission at the port belongs to the active emission. -/
def ownsEntry (p : Fin 4) (fifo : List BlockEntry) : Bool :=
  fifo.any fun e => e.state == .inTransmission p && e.owner == .activeEmission

/-- R121, R111: bursts sent rises by one, and the record is FINISHED when all have been sent. -/
def sentOne (r : EmissionRecord) : EmissionRecord :=
  { r with
    burstsSent := r.burstsSent + 1
    status := if r.burstsSent + 1 = r.burstsTotal then .finished else r.status }

/-- R121: what the completion event does to the slot's emission; the freed place serves the active emission. -/
def blockDone (p : Fin 4) (u : EmissionUnit) : EmissionUnit :=
  refill
    { u with
      fifo := withoutEntry p u.fifo
      record := if ownsEntry p u.fifo then sentOne u.record else u.record }

/-- R16, R182, R185: the reply leaves the reply queue; the completion of ResetPart's reply brings the management reset. -/
def replyDone (s : State) : State :=
  match s.replyQueue with
  | [] => s
  | r :: rest => if r.isResetPart then managementReset { s with replyQueue := rest } else { s with replyQueue := rest }

/-- R16, R17, R121, R123, R162: the completion event of a burst, sent or discarded. -/
def burstDone (p : Fin 4) (from_ : Participant) (b : Burst) (s : State) : State :=
  match from_ with
  | .slotEntry k => modifyEmission k (blockDone p) (tapSlot k b.kind b.payload s)
  | .slotAbort _ => s
  | .reply => replyDone s

/-! ## EGRESS_GRANT (R15 to R17) -/

/-- R3, R4, R16: the burst as transmission begins under a bit order: the order is fixed for it and its check word computed. -/
def transmission (from_ : Participant) (b : Burst) (o : BitOrder) : Sending :=
  { participant := from_, bitOrder := o, burst := b, checkWord := checkWordOf o (coveredWords b) }

/-- R16: transmission begins and the port is SENDING. -/
def startSending (p : Fin 4) (from_ : Participant) (b : Burst) (s : State) : State :=
  modifyEgress p (fun q => { q with sending := some (transmission from_ b q.bitOrder) }) s

/-- R17: a burst granted on a disabled port is discarded, its completion taking place at once. -/
def discardBurst (p : Fin 4) (from_ : Participant) (b : Burst) (s : State) : State :=
  burstDone p from_ b (countEgress p .discardedBursts s)

/-- R15: the port is IDLE and has a participant. -/
def egressDue (s : State) (p : Fin 4) : Bool := s.egress[p].sending.isNone && (nextParticipant s p).isSome

/-- R15 to R17: an IDLE port grants its next participant. -/
def grantEgress (p : Fin 4) (s : State) : State :=
  if s.egress[p].sending.isNone then
    match nextParticipant s p with
    | none => s
    | some i =>
      match burstAt s p i with
      | none => s
      | some (from_, b) =>
        if s.egress[p].enabled then startSending p from_ b (takeBurst p i s)
        else discardBurst p from_ b (takeBurst p i s)
  else s

/-- EGRESS_GRANT (R15). -/
def execEgressGrant (p : Fin 4) (s : State) : Host.Outcome State Fault Refusal :=
  .next (whileRunning s (grantEgress p))

/-! ## EGRESS_BURST_COMPLETION (R16) -/

/-- R16: the end marker has been sent: SENT_BURSTS counts and the port returns to IDLE. -/
def completeEgress (p : Fin 4) (s : State) : State :=
  match s.egress[p].sending with
  | none => s
  | some t =>
    burstDone p t.participant t.burst
      (countEgress p .sentBursts (modifyEgress p (fun q => { q with sending := none }) s))

/-- EGRESS_BURST_COMPLETION (R16). -/
def execEgressBurstCompletion (p : Fin 4) (s : State) : Host.Outcome State Fault Refusal :=
  .next (whileRunning s (completeEgress p))

/-! ## REPLY_SPACE_FREED (R182) -/

/-- R182: the executor waits with a reply and the reply queue has a place. -/
def replySpaceDue (s : State) : Bool :=
  match s.executor with
  | .waitReplySpace _ => decide (s.replyQueue.length < Config.replyQueueSize)
  | .idle => false
  | .executing => false
  | .waitMemory _ => false

/-- R182: the waiting reply joins the tail and the executor goes on. -/
def queueWaitingReply (s : State) : State :=
  match s.executor with
  | .waitReplySpace r => offerReply r s
  | .idle => s
  | .executing => s
  | .waitMemory _ => s

/-- REPLY_SPACE_FREED (R182). -/
def execReplySpaceFreed (s : State) : Host.Outcome State Fault Refusal :=
  .next (whileRunning s queueWaitingReply)

end Sys2Proof.Machine
end

