-- ==== Sys2Proof/Machine/Requests.lean ====
section
/-! DEFINITION. The path every management request takes (R178, R179, R181), the row BAD_REQUEST, and the requests on identity,
reset and ports: READ_IDENTITY (R183), RESET_PART (R185), READ_PORTS and WRITE_PORTS (R12, R13, R184). -/

namespace Sys2Proof.Machine

/-! ## The path of a request -/

/-- The effect of a request and how its own rule answers it, from its operand words. -/
abbrev RequestBody : Type := List Word → State → State × Answer

/-- R179: the executor takes the head request: it leaves the queue and the executor is EXECUTING. -/
def takeRequest (rest : List (List Word)) (s : State) : State :=
  { s with requestQueue := rest, executor := .executing }

/-- R180: the memory request in hand. -/
def memoryJobOf (p : List Word) (address count : Nat) (data : Option (List Word)) : MemoryJob :=
  { tag := requestTag p, code := requestCode p, address := address, count := count, data := data }

/-- R179, R180, R181: how the executor goes on after a request's own rule: a reply offered, or the wait for memory. -/
def answerRequest (p : List Word) (a : Answer) (s : State) : State :=
  match a with
  | .ok results =>
    offerReply { tag := requestTag p, code := requestCode p, status := .ok, reason := 0, results := results } s
  | .badArgument reason =>
    offerReply { tag := requestTag p, code := requestCode p, status := .badArgument, reason := reason, results := [] } s
  | .refused =>
    offerReply { tag := requestTag p, code := requestCode p, status := .refused, reason := 0, results := [] } s
  | .waitMemory address count data => { s with executor := .waitMemory (memoryJobOf p address count data) }

/-- R178: the reply to a request that fails a form check. -/
def badRequestReply (p : List Word) : Reply :=
  { tag := requestTag p, code := requestCode p, status := .badRequest, reason := 0, results := [] }

/-- The executor is IDLE (R179). -/
def executorIdle (s : State) : Bool :=
  match s.executor with
  | .idle => true
  | .executing => false
  | .waitMemory _ => false
  | .waitReplySpace _ => false

/-- R179: the request of the code given, at the head of the queue and of good form, is carried out in one event by its own rule. -/
def runRequest (code : BitVec 8) (body : RequestBody) (s : State) : State :=
  match s.requestQueue with
  | [] => s
  | p :: rest =>
    if executorIdle s && formGood p && requestCode p == code then
      let r := body (requestOperands p) (takeRequest rest s)
      answerRequest p r.2 r.1
    else s

/-- R178: the head request fails a form check and is answered BAD_REQUEST. -/
def runBadRequest (s : State) : State :=
  match s.requestQueue with
  | [] => s
  | p :: rest =>
    if executorIdle s && !formGood p then offerReply (badRequestReply p) (takeRequest rest s) else s

/-- BAD_REQUEST (R178). -/
def execBadRequest (s : State) : Host.Outcome State Fault Refusal :=
  .next (whileRunning s runBadRequest)

/-- The answer of the first check that fails, in the order of a request's table. -/
def firstFailure (checks : List (Bool × Answer)) : Option Answer :=
  match checks with
  | [] => none
  | (good, a) :: rest => if good then firstFailure rest else some a

/-- A request checked before anything changes: the first failing check decides, else its effect is taken. -/
def checked (checks : List (Bool × Answer)) (s : State) (effect : State × Answer) : State × Answer :=
  match firstFailure checks with
  | some a => (s, a)
  | none => effect

/-- A value lies from `low` to `high`. -/
def within (low high v : Nat) : Bool := decide (low ≤ v) && decide (v ≤ high)

/-! ## READ_IDENTITY (R183) -/

/-- R183, 12.4: the identity words. -/
def identityWords (s : State) : List Word :=
  [num 0x0A71, num 0x3216, num 1, num s.memory.blocks, num s.lastResetCause.code, field s.reference.tickNumber,
   num s.faults.mode.code]

/-- R183. -/
def bodyReadIdentity : RequestBody := fun _ s => (s, .ok (identityWords s))

/-- READ_IDENTITY (R183). -/
def execReadIdentity (s : State) : Host.Outcome State Fault Refusal :=
  .next (whileRunning s (runRequest 0x01#8 bodyReadIdentity))

/-! ## RESET_PART (R185) -/

/-- R185 step 1: the OK reply is formed and offered; the reset follows at the completion of that reply. -/
def bodyResetPart : RequestBody := fun _ s => (s, .ok [])

/-- RESET_PART (R185). -/
def execResetPart (s : State) : Host.Outcome State Fault Refusal :=
  .next (whileRunning s (runRequest 0x02#8 bodyResetPart))

/-! ## READ_PORTS (R184) -/

/-- 12.4: an ingress port's three settings. -/
def ingressWords (p : IngressPort) : List Word := [flag p.enabled, flag p.permission, num p.bitOrder.code]

/-- 12.4: an egress port's two settings. -/
def egressWords (p : EgressPort) : List Word := [flag p.enabled, num p.bitOrder.code]

/-- R184, 12.4: every port setting. -/
def portWords (s : State) : List Word :=
  s.ingress.toList.flatMap ingressWords ++ s.egress.toList.flatMap egressWords ++ [num s.replyPort.val]

/-- R184. -/
def bodyReadPorts : RequestBody := fun _ s => (s, .ok (portWords s))

/-- READ_PORTS (R184). -/
def execReadPorts (s : State) : Host.Outcome State Fault Refusal :=
  .next (whileRunning s (runRequest 0x03#8 bodyReadPorts))

/-! ## WRITE_PORTS (R12, R13, R184) -/

/-- R184: every enable, permission and bit order is one of its two values. -/
def settingsInRange (ops : List Word) : Bool := (ops.take 20).all fun w => decide (w.toNat ≤ 1)

/-- R12: an ingress port that is both enabled and has management permission is left. -/
def managementPortLeft (ops : List Word) : Bool :=
  (List.range 4).any fun i => operand ops (3 * i) == 1 && operand ops (3 * i + 1) == 1

/-- R12: an ingress port's new settings; R13: turned from on to off, its FIFO is emptied. -/
def writeIngress (ops : List Word) (i : Fin 4) (p : IngressPort) : IngressPort :=
  { enabled := operand ops (3 * i.val) == 1
    permission := operand ops (3 * i.val + 1) == 1
    bitOrder := (bitOrderOf (operand ops (3 * i.val + 2))).getD p.bitOrder
    fifo := if p.enabled && operand ops (3 * i.val) == 0 then [] else p.fifo }

/-- R12: an egress port's new settings. -/
def writeEgress (ops : List Word) (i : Fin 4) (p : EgressPort) : EgressPort :=
  { p with
    enabled := operand ops (12 + 2 * i.val) == 1
    bitOrder := (bitOrderOf (operand ops (12 + 2 * i.val + 1))).getD p.bitOrder }

/-- R13: a dispatcher that waits with a burst from a port turned off becomes free, its pointer as it stood. -/
def freedDispatcher (ops : List Word) (s : State) : Dispatcher :=
  match s.dispatcher.waiting with
  | none => s.dispatcher
  | some p =>
    if s.ingress[p].enabled && operand ops (3 * p.val) == 0 then { s.dispatcher with waiting := none } else s.dispatcher

/-- R12: every setting takes its new value in one event. -/
def writePortSettings (ops : List Word) (s : State) : State :=
  { s with
    dispatcher := freedDispatcher ops s
    ingress := forEach (indexes 4) (fun i v => modifyAt v i (writeIngress ops i)) s.ingress
    egress := forEach (indexes 4) (fun i v => modifyAt v i (writeEgress ops i)) s.egress
    replyPort := (indexOf 4 (operand ops 20)).getD s.replyPort }

/-- R12, R184: the checks, then the settings. -/
def bodyWritePorts : RequestBody := fun ops s =>
  checked
    [(settingsInRange ops, .badArgument 1), (decide (operand ops 20 ≤ 3), .badArgument 2),
     (managementPortLeft ops, .badArgument 3)]
    s (writePortSettings ops s, .ok [])

/-- WRITE_PORTS (R12). -/
def execWritePorts (s : State) : Host.Outcome State Fault Refusal :=
  .next (whileRunning s (runRequest 0x04#8 bodyWritePorts))

end Sys2Proof.Machine
end

