-- ==== Sys2Proof/Machine/CounterRequests.lean ====
section
/-! DEFINITION. The counter requests: SNAPSHOT_COUNTERS (R150), READ_COUNTERS (R152) and SET_COUNTER_MODE (R147). -/

namespace Sys2Proof.Machine

/-! ## SNAPSHOT_COUNTERS (R150) -/

/-- R148, R149: a stream's live interval minimum and maximum. -/
def extremesOf (c : StreamContext) : IntervalExtremes := { minimum := c.intervalMin, maximum := c.intervalMax }

/-- R150 steps 1 to 3: the bank as copied. -/
def snapshotTaken (clear : Bool) (s : State) : SnapshotBank :=
  { counters := s.live, extremes := mapTable extremesOf s.contexts, tick := some s.reference.tickNumber, cleared := clear }

/-- R148: a context whose interval minimum and maximum are made none. -/
def withoutExtremes (c : StreamContext) : StreamContext := { c with intervalMin := none, intervalMax := none }

/-- R150 step 4: the live counters cleared. -/
def clearCounters (s : State) : State :=
  { s with live := State.zeroCounters, contexts := mapTable withoutExtremes s.contexts }

/-- R150: the snapshot, and the clear when the flag is set. -/
def takeSnapshot (clear : Bool) (s : State) : State :=
  let s1 := { s with snapshot := snapshotTaken clear s }
  if clear then clearCounters s1 else s1

/-- R150. -/
def bodySnapshotCounters : RequestBody := fun ops s =>
  match flagOf (operand ops 0) with
  | none => (s, .badArgument 1)
  | some clear => (takeSnapshot clear s, .ok [field s.reference.tickNumber])

/-- SNAPSHOT_COUNTERS (R150). -/
def execSnapshotCounters (s : State) : Host.Outcome State Fault Refusal :=
  .next (whileRunning s (runRequest 0x14#8 bodySnapshotCounters))

/-! ## READ_COUNTERS (R152) -/

/-- R152: the seven counters of a stream. -/
def streamCounterWords (c : StreamCounters) : List Word :=
  [c.accepted, c.damaged, c.dropped, c.refused, c.orphans, c.cadenceErrors, c.gaps]

/-- R152: the five counters of a slot. -/
def slotCounterWords (c : SlotCounters) : List Word := [c.emitted, c.repeats, c.skips, c.substitutes, c.late]

/-- R152: the six counters of an ingress port. -/
def ingressCounterWords (c : IngressCounters) : List Word :=
  [c.goodBursts, c.checkErrors, c.framingErrors, c.headerErrors, c.overruns, c.misroutes]

/-- R152: the two counters of an egress port. -/
def egressCounterWords (c : EgressCounters) : List Word := [c.sentBursts, c.discardedBursts]

/-- R152, 12.4: presence, the owner's counters, the snapshot tick and the cleared field, for a group without interval extremes. -/
def plainCounterWords (b : SnapshotBank) (counters : List Word) : List Word :=
  [presence [false, false, b.tick.isSome]] ++ counters ++ [optField b.tick, flag b.cleared]

/-- R152, 12.4: the results for a stream, with its interval minimum and maximum. -/
def streamGroupWords (b : SnapshotBank) (n : Fin 32) : List Word :=
  [presence [b.extremes[n].minimum.isSome, b.extremes[n].maximum.isSome, b.tick.isSome]] ++
    streamCounterWords b.counters.streams[n] ++
    [optNum b.extremes[n].minimum, optNum b.extremes[n].maximum, optField b.tick, flag b.cleared]

/-- R152: an index looked up in its group's range; outside it BAD_ARGUMENT, reason index, numbered 2 (the model's choice, log entry
32). -/
def readIndexed (n index : Nat) (words : Fin n → List Word) : Answer :=
  match indexOf n index with
  | none => .badArgument 2
  | some i => .ok (words i)

/-- R152: the results of a group and an index; an unknown group is BAD_ARGUMENT, reason group, numbered 1 (the model's choice, log
entry 32). -/
def counterAnswer (b : SnapshotBank) (group index : Nat) : Answer :=
  match group with
  | 0 => readIndexed 32 index (streamGroupWords b)
  | 1 => readIndexed 16 index fun k => plainCounterWords b (slotCounterWords b.counters.slots[k])
  | 2 => readIndexed 4 index fun p => plainCounterWords b (ingressCounterWords b.counters.ingress[p])
  | 3 => readIndexed 4 index fun p => plainCounterWords b (egressCounterWords b.counters.egress[p])
  | 4 => readIndexed 1 index fun _ =>
      plainCounterWords b [b.counters.reference.strayEdges, b.counters.reference.flywheelTicks]
  | 5 => readIndexed 1 index fun _ =>
      plainCounterWords b [b.counters.memory.corrected, b.counters.memory.uncorrectable]
  | _ => .badArgument 1

/-- R152. -/
def bodyReadCounters : RequestBody := fun ops s => (s, counterAnswer s.snapshot (operand ops 0) (operand ops 1))

/-- READ_COUNTERS (R152). -/
def execReadCounters (s : State) : Host.Outcome State Fault Refusal :=
  .next (whileRunning s (runRequest 0x15#8 bodyReadCounters))

/-! ## SET_COUNTER_MODE (R147) -/

/-- 12.5: the counter mode a code names. -/
def counterModeOf (code : Nat) : Option CounterMode :=
  match code with
  | 0 => some .wrap
  | 1 => some .saturate
  | _ => none

/-- R147. -/
def bodySetCounterMode : RequestBody := fun ops s =>
  match counterModeOf (operand ops 0) with
  | none => (s, .badArgument 1)
  | some mode => ({ s with counterMode := mode }, .ok [])

/-- SET_COUNTER_MODE (R147). -/
def execSetCounterMode (s : State) : Host.Outcome State Fault Refusal :=
  .next (whileRunning s (runRequest 0x16#8 bodySetCounterMode))

end Sys2Proof.Machine
end

