-- ==== Sys2Proof/Machine/EventRequests.lean ====
section
/-! DEFINITION. The event and fault requests: READ_EVENT (R175), READ_EVENT_STATE, CLEAR_EVENTS (R176), WRITE_EVENT_MASK (R174),
READ_FAULT_RECORD (R172) and CLEAR_FAULTS (R171). -/

namespace Sys2Proof.Machine

/-! ## READ_EVENT (R175) -/

/-- R175: the highest-numbered latch that is both pending and unmasked. -/
def highestLatch (latches : Vector Latch 16) : Option (Fin 16) :=
  (indexes 16).reverse.find? fun i => latches[i].pending && latches[i].mask

/-- A latch acknowledged or cleared: its detail is kept (R173). -/
def cleared (l : Latch) : Latch := { l with pending := false }

/-- R175. -/
def bodyReadEvent : RequestBody := fun _ s =>
  match highestLatch s.latches with
  | none => (s, .ok [num 0xFF, num 0, num 0])
  | some i =>
    ({ s with latches := modifyAt s.latches i cleared },
      .ok [num i.val, field s.latches[i].source, field s.latches[i].cause])

/-- READ_EVENT (R175). -/
def execReadEvent (s : State) : Host.Outcome State Fault Refusal :=
  .next (whileRunning s (runRequest 0x17#8 bodyReadEvent))

/-! ## READ_EVENT_STATE (R176) -/

/-- R188: a set of latches in bits 15 to 0, bit n for latch n. -/
def latchSet (latches : Vector Latch 16) (member : Latch → Bool) : Word := presence (latches.toList.map member)

/-- R188: a detail in one word: the source index in bits 12 to 8, the cause code in bits 3 to 0. -/
def detailWord (l : Latch) : Word := (0#19 ++ l.source ++ 0#4 ++ l.cause : BitVec 32)

/-- R176, 12.4: the event state. -/
def eventStateWords (s : State) : List Word :=
  [latchSet s.latches Latch.pending, latchSet s.latches Latch.mask, flag (alertAsserted s)] ++ s.latches.toList.map detailWord

/-- R176. -/
def bodyReadEventState : RequestBody := fun _ s => (s, .ok (eventStateWords s))

/-- READ_EVENT_STATE (R176). -/
def execReadEventState (s : State) : Host.Outcome State Fault Refusal :=
  .next (whileRunning s (runRequest 0x18#8 bodyReadEventState))

/-! ## CLEAR_EVENTS (R176) -/

/-- R188: latch `i` is in the set; bits 31 to 16 are disregarded. -/
def inSet (set : Word) (i : Fin 16) : Bool := set.getLsbD i.val

/-- R176: the pending flag of each latch named is cleared. -/
def clearNamed (set : Word) (latches : Vector Latch 16) : Vector Latch 16 :=
  forEach (indexes 16) (fun i v => if inSet set i then modifyAt v i cleared else v) latches

/-- R176. -/
def bodyClearEvents : RequestBody := fun ops s =>
  ({ s with latches := clearNamed (ops.getD 0 0) s.latches }, .ok [])

/-- CLEAR_EVENTS (R176). -/
def execClearEvents (s : State) : Host.Outcome State Fault Refusal :=
  .next (whileRunning s (runRequest 0x19#8 bodyClearEvents))

/-! ## WRITE_EVENT_MASK (R174) -/

/-- R174: all sixteen mask flags replaced. -/
def writeMask (set : Word) (latches : Vector Latch 16) : Vector Latch 16 :=
  forEach (indexes 16) (fun i v => modifyAt v i fun l => { l with mask := inSet set i }) latches

/-- R174. -/
def bodyWriteEventMask : RequestBody := fun ops s =>
  ({ s with latches := writeMask (ops.getD 0 0) s.latches }, .ok [])

/-- WRITE_EVENT_MASK (R174). -/
def execWriteEventMask (s : State) : Host.Outcome State Fault Refusal :=
  .next (whileRunning s (runRequest 0x1A#8 bodyWriteEventMask))

/-! ## READ_FAULT_RECORD (R172) -/

/-- R172, 12.4: the fault record. -/
def faultWords (f : FaultRecord) : List Word :=
  [presence
     [f.captured.isSome, f.captured.isSome, f.captured.isSome, (f.captured.bind CapturedFault.block).isSome,
      f.captured.isSome],
   flag f.minorHeld, flag f.majorHeld, flag f.double, optNum (f.captured.map fun c => c.kind.code),
   optNum (f.captured.map fun c => c.source.code), optNum (f.captured.map CapturedFault.index),
   optNum (f.captured.bind CapturedFault.block), optField (f.captured.map CapturedFault.tick), num f.mode.code]

/-- R172. -/
def bodyReadFaultRecord : RequestBody := fun _ s => (s, .ok (faultWords s.faults))

/-- READ_FAULT_RECORD (R172). -/
def execReadFaultRecord (s : State) : Host.Outcome State Fault Refusal :=
  .next (whileRunning s (runRequest 0x1B#8 bodyReadFaultRecord))

/-! ## CLEAR_FAULTS (R171) -/

/-- R171: the empty fault record, the part mode NORMAL. -/
def emptyFaults : FaultRecord :=
  { minorHeld := false, majorHeld := false, double := false, captured := none, mode := .normal }

/-- R171. -/
def bodyClearFaults : RequestBody := fun _ s => ({ s with faults := emptyFaults }, .ok [])

/-- CLEAR_FAULTS (R171). -/
def execClearFaults (s : State) : Host.Outcome State Fault Refusal :=
  .next (whileRunning s (runRequest 0x1C#8 bodyClearFaults))

end Sys2Proof.Machine
end

