-- ==== Sys2Proof/Machine/Ingress.lean ====
section
/-! DEFINITION. The ingress family: INGRESS_BURST_JUDGED (R5 to R7), DISPATCH_BURST (R8 to R10, R177) and
WAITING_BURST_ACCEPTED (R11). -/

namespace Sys2Proof.Machine

/-! ## INGRESS_BURST_JUDGED -/

/-- R5, R173: BURST_ERROR causes are 0 check, 1 framing, 2 header (R173 fixes them). -/
def burstError (p : Fin 4) (c : IngressCounter) (cause : Nat) (s : State) : State :=
  raise .burstError p.val cause (countIngress p c s)

/-- R7: a good burst is offered to its port's ingress FIFO. -/
def offerToFifo (p : Fin 4) (b : Burst) (s : State) : State :=
  if s.ingress[p].fifo.length < Config.ingressFifoSize then
    countIngress p .goodBursts
      { s with ingress := modifyAt s.ingress p fun q => { q with fifo := q.fifo ++ [b] } }
  else raise .ingressOverrun p.val 0 (countIngress p .overruns s)

/-- R5: the outcome of the judgement, under the port's bit order as it stands (R4). -/
def judgeBurst (p : Fin 4) (r : Reception) (s : State) : State :=
  match judgeReception s.ingress[p].bitOrder r with
  | .framingError => burstError p .framingErrors 1 s
  | .checkError => burstError p .checkErrors 0 s
  | .headerError => burstError p .headerErrors 2 s
  | .good b => offerToFifo p b s

/-- R5, R13: an enabled port judges a complete burst once; a burst it was to ignore is not judged. -/
def receiveBurst (p : Fin 4) (r : Reception) (s : State) : State :=
  if s.ingress[p].enabled && !r.ignored then judgeBurst p r s else s

/-- INGRESS_BURST_JUDGED (R5). -/
def execIngressBurstJudged (p : Fin 4) (r : Reception) (s : State) : Host.Outcome State Fault Refusal :=
  .next (whileRunning s (receiveBurst p r))

/-! ## Deciding a burst (R9, R10, R177) -/

/-- R10: the causes of MGMT_DISCARD are 0 denied and 1 queue full (R173, R177). -/
def discardRequest (p : Fin 4) (cause : Nat) (s : State) : State := raise .mgmtDiscard p.val cause s

/-- R10, R177: a MGMT_REQUEST burst is queued or discarded at once. -/
def intakeRequest (p : Fin 4) (b : Burst) (s : State) : State :=
  if s.ingress[p].permission then
    if s.requestQueue.length < Config.requestQueueSize then { s with requestQueue := s.requestQueue ++ [b.payload] }
    else discardRequest p 1 s
  else discardRequest p 0 s

/-- R9 step 2: a stream in service whose entry fails its parity check goes to CLOSING. -/
def checkEntry (n : Fin 32) (s : State) : State :=
  if inService s.contexts[n].state && !s.entries[n].parityGood then entryParityFailure n s else s

/-- R9 steps 3 and 4, R11: misroute, acceptance, or the wait for write queue space. -/
def routeMedia (p : Fin 4) (n : Fin 32) (b : Burst) (s : State) : State :=
  if inService s.contexts[n].state && (fieldsOf s n).source == .ingress p then
    if writeQueueHasRoom s then acceptBurst n b (finishBurst p s)
    else { s with dispatcher := { s.dispatcher with waiting := some p } }
  else misroute p (finishBurst p s)

/-- R9: the fate of a media burst, from step 1. -/
def decideMedia (p : Fin 4) (b : Burst) (s : State) : State :=
  if s.faults.mode = .safe then finishBurst p s
  else routeMedia p (streamOfTag b.tag) b (checkEntry (streamOfTag b.tag) s)

/-- R8 to R10: the fate of the head burst of port `p`. -/
def decideBurst (p : Fin 4) (b : Burst) (s : State) : State :=
  match b.kind with
  | .requestBurst => intakeRequest p b (finishBurst p s)
  | .startBurst => decideMedia p b s
  | .bodyBurst => decideMedia p b s
  | .endBurst => decideMedia p b s
  | .singleBurst => decideMedia p b s
  | .abortBurst => finishBurst p s
  | .replyBurst => finishBurst p s

/-! ## DISPATCH_BURST -/

/-- R8: the first non-empty FIFO, searching from the port the pointer names. -/
def nextPort (s : State) : Option (Fin 4) :=
  (roundFrom s.dispatcher.pointer).find? fun p => !s.ingress[p].fifo.isEmpty

/-- R8: the dispatcher is free and at least one FIFO holds a burst. -/
def dispatchDue (s : State) : Bool := s.dispatcher.waiting.isNone && (nextPort s).isSome

/-- R8: the free dispatcher takes the head burst of the first non-empty FIFO. -/
def dispatch (s : State) : State :=
  if s.dispatcher.waiting.isNone then
    match nextPort s with
    | none => s
    | some p =>
      match headBurst s p with
      | none => s
      | some b => decideBurst p b s
  else s

/-- DISPATCH_BURST (R8). -/
def execDispatchBurst (s : State) : Host.Outcome State Fault Refusal :=
  .next (whileRunning s dispatch)

/-! ## WAITING_BURST_ACCEPTED -/

/-- R11: the dispatcher waits and the write queue has gained space. -/
def waitingDue (s : State) : Bool := s.dispatcher.waiting.isSome && writeQueueHasRoom s

/-- R11: the dispatcher takes its decision again from step 1 of R9. The wait is over when the decision is taken (log entry 29). -/
def retryWaiting (s : State) : State :=
  if writeQueueHasRoom s then
    match s.dispatcher.waiting with
    | none => s
    | some p =>
      match headBurst s p with
      | none => { s with dispatcher := { s.dispatcher with waiting := none } }
      | some b => decideBurst p b { s with dispatcher := { s.dispatcher with waiting := none } }
  else s

/-- WAITING_BURST_ACCEPTED (R11). -/
def execWaitingBurstAccepted (s : State) : Host.Outcome State Fault Refusal :=
  .next (whileRunning s retryWaiting)

end Sys2Proof.Machine
end

