-- ==== Sys2Proof/Machine/MemoryRequests.lean ====
section
/-! DEFINITION. The memory requests: READ_ARBITRATION (R142), SET_ARBITRATION (R141), MEMORY_READ (R139) and MEMORY_WRITE (R140). -/

namespace Sys2Proof.Machine

/-! ## READ_ARBITRATION (R142) -/

/-- 12.4: the slot of an access; 0 for any kind but EGRESS. -/
def accessSlot (a : Access) : Nat :=
  match a with
  | .egress k => k.val
  | .ingress => 0
  | .mgmt => 0
  | .refresh => 0

/-- R142: the head entry of the write queue is WRITING. -/
def headWriting (q : List WriteEntry) : Bool :=
  match q with
  | [] => false
  | e :: _ => e.state == .writing

/-- R142, 12.4: the arbiter. -/
def arbitrationWords (s : State) : List Word :=
  let a := s.arbiter
  [num a.order.code, num a.lowMark, num a.urgentMark, num a.refreshInterval, num a.refreshTimer, num a.refreshOwed,
   num s.writeQueue.length, flag (headWriting s.writeQueue), flag a.access.isSome, optNum (a.access.map Access.code),
   optNum (a.access.map accessSlot), num a.egressPointer.val, num s.memory.blocks]

/-- R142. -/
def bodyReadArbitration : RequestBody := fun _ s => (s, .ok (arbitrationWords s))

/-- READ_ARBITRATION (R142). -/
def execReadArbitration (s : State) : Host.Outcome State Fault Refusal :=
  .next (whileRunning s (runRequest 0x10#8 bodyReadArbitration))

/-! ## SET_ARBITRATION (R141) -/

/-- R141: the checks after the order, in the order of the table. -/
def arbitrationChecks (ops : List Word) : List (Bool × Answer) :=
  [(within 1 7 (operand ops 1), .badArgument 2),
   (within 0 6 (operand ops 2), .badArgument 3),
   (decide (operand ops 2 < operand ops 1), .badArgument 4),
   (within 64 65535 (operand ops 3), .badArgument 5)]

/-- R141: the four values in force. -/
def arbitrationSet (order : ArbOrder) (ops : List Word) (a : Arbiter) : Arbiter :=
  { a with order := order, lowMark := operand ops 1, urgentMark := operand ops 2, refreshInterval := operand ops 3 }

/-- R141: the four values put in force; a refresh timer already at the new interval expires in the event (R137). -/
def bodySetArbitration : RequestBody := fun ops s =>
  match arbOrderOf (operand ops 0) with
  | none => (s, .badArgument 1)
  | some order =>
    checked (arbitrationChecks ops) s (expireRefreshTimer (modifyArbiter (arbitrationSet order ops) s), .ok [])

/-- SET_ARBITRATION (R141). -/
def execSetArbitration (s : State) : Host.Outcome State Fault Refusal :=
  .next (whileRunning s (runRequest 0x11#8 bodySetArbitration))

/-! ## MEMORY_READ (R139) -/

/-- R139, R140: the checks on count and address, in the order of the tables. -/
def memoryChecks (ops : List Word) (s : State) : List (Bool × Answer) :=
  [(within 1 16 (operand ops 1), .badArgument 1),
   (decide (operand ops 0 + operand ops 1 ≤ 64 * s.memory.blocks), .badArgument 2)]

/-- R139: a read that passes waits for its memory access. -/
def bodyMemoryRead : RequestBody := fun ops s =>
  checked (memoryChecks ops s) s (s, .waitMemory (operand ops 0) (operand ops 1) none)

/-- MEMORY_READ (R139). -/
def execMemoryRead (s : State) : Host.Outcome State Fault Refusal :=
  .next (whileRunning s (runRequest 0x12#8 bodyMemoryRead))

/-! ## MEMORY_WRITE (R140) -/

/-- R34, R140: a block lies in the region of an entry. -/
def inRegion (f : StreamFields) (block : Nat) : Bool :=
  decide (f.regionBase ≤ block) && decide (block < f.regionBase + regionSize f)

/-- R140: no block that the words fall in lies in the region of a stream that is not OFF. -/
def writeAllowed (address count : Nat) (s : State) : Bool :=
  (indexes 32).all fun n =>
    s.contexts[n].state == .off ||
      (!inRegion (fieldsOf s n) (address / 64) && !inRegion (fieldsOf s n) ((address + count - 1) / 64))

/-- R140: a write that passes waits for its memory access with its words. -/
def bodyMemoryWrite : RequestBody := fun ops s =>
  checked (memoryChecks ops s ++ [(writeAllowed (operand ops 0) (operand ops 1) s, .refused)]) s
    (s, .waitMemory (operand ops 0) (operand ops 1) (some (ops.drop 2)))

/-- MEMORY_WRITE (R140). -/
def execMemoryWrite (s : State) : Host.Outcome State Fault Refusal :=
  .next (whileRunning s (runRequest 0x13#8 bodyMemoryWrite))

end Sys2Proof.Machine
end

