-- ==== Sys2Proof/Machine/Generator.lean ====
section
/-! DEFINITION. The pattern generator (R155 to R160): its work at a tick, GENERATOR_FRAME_START and GENERATOR_BURST_TAKEN. -/

namespace Sys2Proof.Machine

/-- R154, R158: `count` PN words and the register after them. -/
def pnWords (count : Nat) (r : BitVec 23) : List Word × BitVec 23 :=
  match count with
  | 0 => ([], r)
  | k + 1 =>
    let first := pnWord r
    let rest := pnWords k first.2
    (first.1 :: rest.1, rest.2)

/-- R158: the next 64 words of the pattern. -/
def drawnWords (g : Generator) : List Word :=
  match g.pattern with
  | .count => (List.range 64).map fun i => g.countValue + num i
  | .pn => (pnWords 64 g.pnRegister).1
  | .fill => List.replicate 64 g.fillWord

/-- R158: the generator with the series advanced past 64 words. -/
def drawn (g : Generator) : Generator :=
  match g.pattern with
  | .count => { g with countValue := g.countValue + 64#32 }
  | .pn => { g with pnRegister := (pnWords 64 g.pnRegister).2 }
  | .fill => g

/-- R158: the kind of burst `b` of a frame of `total` bursts. -/
def generatedKind (b total : Nat) : BurstKind :=
  if total = 1 then .singleBurst
  else if b = 0 then .startBurst
  else if b + 1 = total then .endBurst
  else .bodyBurst

/-- R158: the next burst of the frame in progress. Its frame number is the one taken at the frame start (R157). -/
def generatedBurst (n : Fin 32) (g : Generator) : Burst :=
  { tag := BitVec.ofNat 6 n.val, kind := generatedKind g.burstsTaken g.frameLength, repeatFlag := false, substFlag := false,
    mediaErrFlag := false, index := g.burstsTaken, frameNumber := g.nextFrameNumber - 1#16, payload := drawnWords g }

/-- R158: the next burst is made and offered. -/
def offerBurst (n : Fin 32) (s : State) : State :=
  { s with generator := { drawn s.generator with waiting := some (generatedBurst n s.generator) } }

/-- R159: the end of a frame: TEST when N frames are done; otherwise a stop that was requested. In a taking this comes after the
checker's work, by the model's choice (`takeGenerated`, log entry 35). -/
def endGeneratedFrame (s : State) : State :=
  let g := { s.generator with inProgress := false, framesDone := s.generator.framesDone + 1#32, waiting := none }
  if g.frameCount ≠ 0 ∧ g.framesDone.toNat = g.frameCount then
    raiseGeneratorTest 0 { s with generator := { g with state := .stopped } }
  else if g.stopRequested then { s with generator := { g with state := .stopped } }
  else { s with generator := g }

/-- R158: a waiting burst has been taken: bursts taken rises by one; the frame ends or the next burst is offered. -/
def afterTaking (n : Fin 32) (s : State) : State :=
  let s1 := { s with generator := { s.generator with burstsTaken := s.generator.burstsTaken + 1 } }
  if s1.generator.frameLength ≤ s1.generator.burstsTaken then endGeneratedFrame s1 else offerBurst n s1

/-- R158, R60: the generator's waiting burst is taken by stream acceptance when the write queue has a free entry. One taking can raise
TEST twice: checker synced or lost by the STREAM tap at the append (R162), and generator done at the frame's last burst (R159). R165 does
not say which of the two is the later cause, which the latch's detail names; that generator done comes last is the model's choice (log
entry 35). -/
def takeGenerated (s : State) : State :=
  match s.generator.waiting, s.generator.stream with
  | some b, some n => if writeQueueHasRoom s then afterTaking n (acceptBurst n b s) else s
  | _, _ => s

/-! ## At a tick (R157) -/

/-- R157: the generator's work at a tick up to the frame start: ticks since start is counted and a frame start falls due.
It comes before every other work of the tick, by the model's choice (`numberTick`, log entry 5). -/
def generatorTick (g : Generator) : Generator :=
  if g.state = .running then
    let ticks := g.ticksSinceStart.map fun t => if t < 255 then t + 1 else t
    { g with
      ticksSinceStart := ticks
      frameStartDue := !g.inProgress && (match ticks with | none => true | some t => decide (g.spacing ≤ t)) }
  else g

/-- R157: the record at a frame start. -/
def frameStarted (g : Generator) : Generator :=
  { g with inProgress := true, burstsTaken := 0, ticksSinceStart := some 0, nextFrameNumber := g.nextFrameNumber + 1#16,
           frameStartDue := false }

/-- R157: a frame is started: the entry is used, and with good parity the first burst is offered, and taken at once if the write
queue has a free entry. -/
def startGeneratedFrame (s : State) : State :=
  if s.generator.state = .running ∧ s.generator.frameStartDue = true then
    match s.generator.stream with
    | none => s
    | some n =>
      if s.entries[n].parityGood then
        takeGenerated (offerBurst n { s with generator := frameStarted s.generator })
      else entryParityFailure n { s with generator := { s.generator with frameStartDue := false } }
  else s

/-- GENERATOR_FRAME_START (R157). -/
def execGeneratorFrameStart (s : State) : Host.Outcome State Fault Refusal :=
  .next (whileRunning s startGeneratedFrame)

/-- GENERATOR_BURST_TAKEN (R158). -/
def execGeneratorBurstTaken (s : State) : Host.Outcome State Fault Refusal :=
  .next (whileRunning s takeGenerated)

end Sys2Proof.Machine
end

