-- ==== Sys2Proof/Machine/Slots.lean ====
section
/-! DEFINITION. A slot's work at a tick (R87 to R106) and the command HOLD_EXPIRED (R98). -/

namespace Sys2Proof.Machine

/-! ## Adoption and parity (R88, R89) -/

/-- A slot's route changed. -/
def modifyRoute (k : Fin 16) (f : Route → Route) (s : State) : State :=
  { s with routes := modifyAt s.routes k f }

/-- R88, R89: a route entry has failed its parity check: TABLE_PARITY, the active entry is the reset entry, nothing is pending. -/
def routeParityFailure (k : Fin 16) (s : State) : State :=
  majorFault .tableParity .routeTable k.val none
    (modifyRoute k (fun _ => { active := State.resetRouteEntry, pending := none }) s)

/-- R88: a pending entry is present and its parity has gone bad. -/
def adoptionFails (s : State) (k : Fin 16) : Bool :=
  match s.routes[k].pending with
  | none => false
  | some e => !e.parityGood

/-- R88: the pending entry with good parity replaces the active entry; from OFF to enabled the output frame counter is set to 0. -/
def adoptEntry (k : Fin 16) (e : RouteEntry) (s : State) : State :=
  let s1 := modifyRoute k (fun _ => { active := { fields := e.fields, parityGood := true }, pending := none }) s
  if s.slots[k].state = .off ∧ e.fields.enabled = true then modifySlot k (fun c => { c with outputFrame := 0 }) s1 else s1

/-- R87 step 1. -/
def adoptPending (k : Fin 16) (s : State) : State :=
  match s.routes[k].pending with
  | none => s
  | some e => if e.parityGood then adoptEntry k e s else routeParityFailure k s

/-- R89: the active entry is enabled and fails its parity check. -/
def activeFails (s : State) (k : Fin 16) : Bool :=
  s.routes[k].active.fields.enabled && !s.routes[k].active.parityGood

/-- R87 step 3. -/
def checkActive (k : Fin 16) (s : State) : State :=
  if activeFails s k then routeParityFailure k s else s

/-! ## Outcomes of the choice -/

/-- R58: a slot lets go of its current buffer, if present. -/
def releaseCurrent (k : Fin 16) (s : State) : State :=
  match s.slots[k].current with
  | none => s
  | some c => modifySlot k (fun t => { t with current := none }) (letGo c.buffer s)

/-- R91: the slot goes to OFF. -/
def goOff (k : Fin 16) (s : State) : State :=
  modifySlot k (fun c => { c with state := .off, holdTimer := 0, cause := none }) (releaseCurrent k s)

/-- R100: SLOT_SUBSTITUTE is raised when the slot was not in SUBST before. -/
def raiseSubstitute (k : Fin 16) (before : SlotState) (cause : SubstCause) (s : State) : State :=
  if before = .subst then s else raise .slotSubstitute k.val cause.code s

/-- R100, R101: a tick whose choice is SUBST. -/
def substitute (k : Fin 16) (cause : SubstCause) (s : State) : State :=
  let s1 := modifySlot k (fun c => { c with state := .subst, holdTimer := 0, cause := some cause }) (releaseCurrent k s)
  let s2 := raiseSubstitute k s.slots[k].state cause (countSlot k .substitutes 1 s1)
  if cause = .table then s2 else emitSubstitute k s2

/-- R93: a sequence is newer than another when their difference, modulo 2^32, is from 1 to 2^31 - 1. -/
def newer (a b : BitVec 32) : Bool :=
  decide (1 ≤ (a - b).toNat) && decide ((a - b).toNat < 2 ^ 31)

/-- R93: eligibility of a buffer at the tick. -/
def eligible (tick : BitVec 32) (delay : Nat) (r : Buffer) : Bool :=
  r.complete && !r.mediaError && decide (delay < (tick - r.stamp.getD 0).toNat)

/-- R93: the newest eligible buffer of a stream's ring. -/
def newestEligible (s : State) (n : Fin 32) (delay : Nat) : Option (Fin 8) :=
  (ringIndexes (fieldsOf s n)).foldl
    (fun best i =>
      let r := bufferOf s ⟨n, i⟩
      if eligible s.reference.tickNumber delay r then
        match best with
        | none => some i
        | some j =>
          if sequenceAge s.contexts[n].sequenceCounter r < sequenceAge s.contexts[n].sequenceCounter (bufferOf s ⟨n, j⟩) then some i
          else some j
      else best)
    none

/-- R94: whether the newest eligible buffer is taken as a new frame. -/
def takesNew (current : Option CurrentFrame) (n : Fin 32) (sequence : BitVec 32) : Bool :=
  match current with
  | none => true
  | some c => c.buffer.stream != n || newer sequence c.sequence

/-- R95: the frames passed over at a new frame of the same stream. -/
def skipsOf (current : Option CurrentFrame) (n : Fin 32) (sequence : BitVec 32) : Nat :=
  match current with
  | none => 0
  | some c => if c.buffer.stream = n then (sequence - c.sequence - 1#32).toNat else 0

/-- R94: a new frame is taken: the old buffer let go, the new one held, skips counted, RUN, and its emission begun. -/
def takeNew (k : Fin 16) (b : BufferName) (s : State) : State :=
  let sequence := (bufferOf s b).sequence.getD 0
  let s1 := takeHold b (releaseCurrent k s)
  let s2 := modifySlot k
    (fun c => { c with state := .run, current := some { buffer := b, sequence := sequence }, holdTimer := 0, cause := none }) s1
  emitFrame k b false (countSlot k .skips (skipsOf s.slots[k].current b.stream sequence) s2)

/-- R96, R98: the current buffer is repeated in the state given, with the hold timer given. -/
def repeatFrame (k : Fin 16) (st : SlotState) (timer : Nat) (b : BufferName) (s : State) : State :=
  emitFrame k b true
    (countSlot k .repeats 1 (modifySlot k (fun c => { c with state := st, holdTimer := timer }) s))

/-- R94, R96, R97: the choice while the routed stream is LOCKED. -/
def chooseLocked (k : Fin 16) (n : Fin 32) (s : State) : State :=
  let current := s.slots[k].current
  let fallback : State :=
    match current with
    | none => substitute k .noFrame s
    | some c =>
      if (bufferOf s c.buffer).mediaError then substitute k .noFrame s else repeatFrame k .run 0 c.buffer s
  match newestEligible s n s.routes[k].active.fields.delay with
  | none => fallback
  | some i =>
    if takesNew current n ((bufferOf s ⟨n, i⟩).sequence.getD 0) then takeNew k ⟨n, i⟩ s else fallback

/-- R98: the choice while the routed stream is ACQUIRING or LOST. A HOLDING slot whose timer is 0 is left to HOLD_EXPIRED
(log entry 5). -/
def chooseUnlocked (k : Fin 16) (s : State) : State :=
  let slot := s.slots[k]
  let limit := s.routes[k].active.fields.holdLimit
  match slot.current with
  | none => substitute k .noFrame s
  | some c =>
    let marked := (bufferOf s c.buffer).mediaError
    if slot.state = .holding then
      if slot.holdTimer = 0 then modifySlot k (fun t => { t with holdExpiryDue := true }) s
      else if marked then substitute k .noFrame s
      else repeatFrame k .holding slot.holdTimer c.buffer s
    else if limit = 0 then substitute k .holdExpired s
    else if marked then substitute k .noFrame s
    else repeatFrame k .holding limit c.buffer s

/-- R90: the choice. A parity failure at this tick decides before the replaced entry is looked at (R88, R89; log entry 16). -/
def choose (k : Fin 16) (failed : Bool) (s : State) : State :=
  let f := s.routes[k].active.fields
  if failed then substitute k .table s
  else if f.enabled then
    if s.faults.mode = .safe then substitute k .safe s
    else
      match s.contexts[f.stream].state with
      | .off => substitute k .streamOff s
      | .closing => substitute k .streamOff s
      | .locked => chooseLocked k f.stream s
      | .acquiring => chooseUnlocked k s
      | .lost => chooseUnlocked k s
  else goOff k s

/-- R87 step 6: a slot now HOLDING decrements its hold timer. -/
def countDownHold (k : Fin 16) (s : State) : State :=
  if s.slots[k].state = .holding then modifySlot k (fun c => { c with holdTimer := c.holdTimer - 1 }) s else s

/-! ## HOLD_EXPIRED (R98) -/

/-- R98: the hold has expired at the tick: SUBST with cause hold expired; the buffer is let go and the substitute begun. -/
def expireHold (k : Fin 16) (s : State) : State :=
  if s.slots[k].holdExpiryDue then
    substitute k .holdExpired (modifySlot k (fun c => { c with holdExpiryDue := false }) s)
  else s

/-- HOLD_EXPIRED (R98). -/
def execHoldExpired (k : Fin 16) (s : State) : Host.Outcome State Fault Refusal :=
  .next (whileRunning s (expireHold k))

/-! ## The slot at a tick (R87) -/

/-- R87: the slot's work at a tick, in its order: adopt, cut, check, choose and begin, count down. -/
def slotWork (k : Fin 16) (s : State) : State :=
  let s0 := expireHold k s
  let s1 := cutIfLate k (adoptPending k s0)
  let failed := adoptionFails s0 k || activeFails s1 k
  countDownHold k (choose k failed (checkActive k s1))

end Sys2Proof.Machine
end

