-- ==== Sys2Proof/Machine/Reference.lean ====
section
/-! DEFINITION. The reference unit (02): the tick and its delivery (R20), FREE_PERIOD_EXPIRY (R22), REF_EDGE (R23, R26, R27),
WINDOW_CLOSE (R24) and SEARCHING_FLYWHEEL (R25). -/

namespace Sys2Proof.Machine

/-! ## The tick (R20) -/

/-- The reference unit changed. -/
def modifyReference (f : Reference → Reference) (s : State) : State :=
  { s with reference := f s.reference }

/-- What an earlier tick left due is done before the next tick (log entry 5): judgements and expired holds. -/
def finishTick (s : State) : State :=
  forEach (indexes 16) expireHold (forEach (indexes 32) judgeActivity s)

/-- R20: the tick number increases by one before any block acts; a RUNNING generator counts its ticks and its frame
start may fall due (R157). That the generator's count comes before every other work of the tick is the model's choice (log entry 5):
R20 and R157 give no order. -/
def numberTick (s : State) : State :=
  { s with
    reference := { s.reference with tickNumber := s.reference.tickNumber + 1#32 }
    generator := generatorTick s.generator }

/-- One work of a tick. -/
def doTickWork (w : TickWork) (s : State) : State :=
  match w with
  | .count n => countTick n s
  | .judge n => judgeActivity n s
  | .slot k => slotWork k s
  | .generator => startGeneratedFrame s

/-- The works of a tick in the order taken: every stream's count that the command does not name, then the works it names, then every
slot it does not name. That a count not named comes first is the model's choice; R47 lets a frame start of the generator at the same
tick come before it, which the command says by naming both (log entry 5). -/
def tickWorks (order : List TickWork) : List TickWork :=
  ((indexes 32).map TickWork.count).filter (fun w => !order.contains w) ++
    (order.eraseDups ++ ((indexes 16).map TickWork.slot).filter fun w => !order.contains w)

/-- R20: a tick, delivered to the streams, the slots with their emission, and the generator. -/
def makeTick (order : List TickWork) (s : State) : State :=
  forEach (tickWorks order) doTickWork (numberTick (finishTick s))

/-- R19: while TBCLK stands no tick is made and no edge is seen (log entry 30). -/
def whileClocked (f : State → State) (s : State) : State := if s.timebaseRuns then f s else s

/-! ## Pending parameters (R30) -/

/-- R30: the edge counter under new parameters. -/
def recappedEdge (old new : RefParams) (e : Nat) : Nat :=
  if e = old.period + old.tolerance + 1 ∨ new.period + new.tolerance + 1 < e then new.period + new.tolerance + 1 else e

/-- R30: pending parameters replace those in force after the tick; `toTolerance` tells that the tick set c to T. That "after the tick"
is after the works delivered with it, and before what the tick leaves to rows of their own, is the model's choice (log entry 34): it
settles the P and T of R44 for a frame start of the generator at that tick. -/
def adoptedParams (toTolerance : Bool) (r : Reference) : Reference :=
  match r.pendingParams with
  | none => r
  | some q =>
    { r with
      params := q
      pendingParams := none
      periodCounter := if toTolerance then q.tolerance else r.periodCounter
      edgeCounter := r.edgeCounter.map (recappedEdge r.params q) }

/-- R28: REF_STATE is raised with the new state. -/
def raiseRefState (st : RefState) (s : State) : State := raise .refState 0 st.code s

/-! ## FREE_PERIOD_EXPIRY (R22) -/

/-- R22: in FREE mode the period counter has reached P. -/
def freeExpiryDue (r : Reference) : Bool := r.mode == .free && decide (r.params.period ≤ r.periodCounter)

/-- R22: a tick is made and c is set to 0; pending parameters are adopted after its works (log entry 34). -/
def freeExpiry (order : List TickWork) (s : State) : State :=
  if freeExpiryDue s.reference then
    modifyReference (fun r => adoptedParams false { r with periodCounter := 0 }) (makeTick order s)
  else s

/-- FREE_PERIOD_EXPIRY (R22). -/
def execFreePeriodExpiry (order : List TickWork) (s : State) : Host.Outcome State Fault Refusal :=
  .next (whileRunning s (whileClocked (freeExpiry order)))

/-! ## WINDOW_CLOSE (R24) -/

/-- TRACKING or COASTING. -/
def followsEdges (st : RefState) : Bool :=
  match st with
  | .tracking => true
  | .coasting => true
  | .free => false
  | .searching => false

/-- R24: in TRACKING or COASTING c has reached P + T. -/
def windowCloseDue (r : Reference) : Bool :=
  followsEdges r.state && decide (r.params.period + r.params.tolerance ≤ r.periodCounter)

/-- R25: the entry to SEARCHING; c keeps the value just given to it. -/
def enterSearching (r : Reference) : Reference :=
  { r with state := .searching, missedRun := 0, goodRun := 0, edgeCounter := none }

/-- R24: the unit at the close of the window, its missed run judged under the M in force. -/
def closedWindow (r : Reference) : Reference :=
  let r1 := { r with periodCounter := r.params.tolerance, missedRun := r.missedRun + 1 }
  if r1.missedRun < r.params.lossCount then { r1 with state := .coasting } else enterSearching r1

/-- R24, R28: REF_STATE at the close: on entry to COASTING from TRACKING, and on entry to SEARCHING. -/
def raiseAtClose (before after : RefState) (s : State) : State :=
  if before = after then s else raiseRefState after s

/-- R24: a flywheel tick is made, c is set to T and the missed run increments; pending parameters are adopted after its works (log
entry 34). -/
def closeWindow (order : List TickWork) (s : State) : State :=
  if windowCloseDue s.reference then
    let s1 := modifyReference closedWindow (countReference .flywheelTicks (makeTick order s))
    modifyReference (adoptedParams true) (raiseAtClose s.reference.state s1.reference.state s1)
  else s

/-- WINDOW_CLOSE (R24). -/
def execWindowClose (order : List TickWork) (s : State) : Host.Outcome State Fault Refusal :=
  .next (whileRunning s (whileClocked (closeWindow order)))

/-! ## SEARCHING_FLYWHEEL (R25) -/

/-- R25: in SEARCHING c has reached P. -/
def flywheelDue (r : Reference) : Bool :=
  r.state == .searching && decide (r.params.period ≤ r.periodCounter)

/-- R25: a flywheel tick is made and c is set to 0; pending parameters are adopted after its works (log entry 34). -/
def searchFlywheel (order : List TickWork) (s : State) : State :=
  if flywheelDue s.reference then
    modifyReference (fun r => adoptedParams false { r with periodCounter := 0 })
      (countReference .flywheelTicks (makeTick order s))
  else s

/-- SEARCHING_FLYWHEEL (R25). -/
def execSearchingFlywheel (order : List TickWork) (s : State) : Host.Outcome State Fault Refusal :=
  .next (whileRunning s (whileClocked (searchFlywheel order)))

/-! ## REF_EDGE (R23, R26, R27) -/

/-- R23: an edge in window makes a tick; c and the missed run are set to 0 and the state becomes TRACKING; pending
parameters are adopted after the works of the tick (log entry 34). -/
def edgeInWindow (order : List TickWork) (s : State) : State :=
  let s1 := modifyReference
    (fun r => adoptedParams false { r with periodCounter := 0, missedRun := 0, state := .tracking }) (makeTick order s)
  if s.reference.state = .coasting then raiseRefState .tracking s1 else s1

/-- R23: an edge in TRACKING or COASTING, judged by c: stray below P - T, in window up to P + T; a higher c is not met and such an
edge is ignored (log entry 23). -/
def edgeWhileFollowing (order : List TickWork) (s : State) : State :=
  let r := s.reference
  if r.periodCounter + r.params.tolerance < r.params.period then countReference .strayEdges s
  else if r.periodCounter ≤ r.params.period + r.params.tolerance then edgeInWindow order s
  else s

/-- R26: the good run after an edge in SEARCHING, judged by e. -/
def judgedGoodRun (r : Reference) : Nat :=
  match r.edgeCounter with
  | none => r.goodRun
  | some e =>
    if r.params.period ≤ e + r.params.tolerance ∧ e ≤ r.params.period + r.params.tolerance then r.goodRun + 1 else 0

/-- R27: REF is regained at this edge: the edge has raised the good run to K or above. -/
def regains (r : Reference) : Bool :=
  decide (r.goodRun < judgedGoodRun r) && decide (r.params.regainCount ≤ judgedGoodRun r)

/-- R27: the unit at the regain, c apart. -/
def regained (r : Reference) : Reference :=
  { r with state := .tracking, missedRun := 0, goodRun := 0, edgeCounter := none }

/-- R27: with c at least half of P the regaining edge makes a tick, and pending parameters are adopted after its works (log entry
34); in both cases c is set to 0. -/
def regain (order : List TickWork) (s : State) : State :=
  let s1 := raiseRefState .tracking (modifyReference regained s)
  if s.reference.params.period ≤ 2 * s.reference.periodCounter then
    modifyReference (fun r => adoptedParams false { r with periodCounter := 0 }) (makeTick order s1)
  else modifyReference (fun r => { r with periodCounter := 0 }) s1

/-- R26: an edge in SEARCHING sets e to 0 after the judgement. -/
def edgeWhileSearching (order : List TickWork) (s : State) : State :=
  if regains s.reference then regain order s
  else modifyReference (fun r => { r with goodRun := judgedGoodRun r, edgeCounter := some 0 }) s

/-- R19, R22, R23, R26: an REF edge as the unit sees it; in FREE mode edges are not seen. -/
def seeEdge (order : List TickWork) (s : State) : State :=
  match s.reference.state with
  | .free => s
  | .tracking => edgeWhileFollowing order s
  | .coasting => edgeWhileFollowing order s
  | .searching => edgeWhileSearching order s

/-- REF_EDGE (R23). -/
def execRefEdge (order : List TickWork) (s : State) : Host.Outcome State Fault Refusal :=
  .next (whileRunning s (whileClocked (seeEdge order)))

end Sys2Proof.Machine
end

