-- ==== Sys2Proof/Machine/ReferenceRequests.lean ====
section
/-! DEFINITION. The reference requests: READ_REFERENCE (R32) and SET_REFERENCE (R29 to R31). -/

namespace Sys2Proof.Machine

/-! ## READ_REFERENCE (R32) -/

/-- R32, 12.4: the reference unit. -/
def referenceWords (r : Reference) : List Word :=
  [presence
     [r.pendingParams.isSome, r.pendingParams.isSome, r.pendingParams.isSome, r.pendingParams.isSome, r.edgeCounter.isSome],
   num r.mode.code, num r.state.code, num r.params.period, num r.params.tolerance, num r.params.lossCount,
   num r.params.regainCount, optNum (r.pendingParams.map RefParams.period), optNum (r.pendingParams.map RefParams.tolerance),
   optNum (r.pendingParams.map RefParams.lossCount), optNum (r.pendingParams.map RefParams.regainCount),
   num r.periodCounter, optNum r.edgeCounter, num r.missedRun, num r.goodRun, field r.tickNumber]

/-- R32. -/
def bodyReadReference : RequestBody := fun _ s => (s, .ok (referenceWords s.reference))

/-- READ_REFERENCE (R32). -/
def execReadReference (s : State) : Host.Outcome State Fault Refusal :=
  .next (whileRunning s (runRequest 0x0E#8 bodyReadReference))

/-! ## SET_REFERENCE (R29 to R31) -/

/-- R29: the parameters that the operands give. -/
def refParamsOf (ops : List Word) : RefParams :=
  { period := operand ops 1, tolerance := operand ops 2, lossCount := operand ops 3, regainCount := operand ops 4 }

/-- R29: the checks after the mode, in the order of the table. -/
def refChecks (q : RefParams) : List (Bool × Answer) :=
  [(within 1000 16777214 q.period, .badArgument 2),
   (decide (4 * q.tolerance ≤ q.period), .badArgument 3),
   (within 1 15 q.lossCount, .badArgument 4),
   (within 1 15 q.regainCount, .badArgument 5)]

/-- R31: a change to FOLLOW: SEARCHING is entered (R25). -/
def changeToFollow (q : RefParams) (r : Reference) : Reference :=
  enterSearching { r with mode := .follow, params := q, pendingParams := none, periodCounter := 0 }

/-- R31: a change to FREE. -/
def changeToFree (q : RefParams) (r : Reference) : Reference :=
  { r with mode := .free, state := .free, params := q, pendingParams := none, periodCounter := 0, missedRun := 0, goodRun := 0,
           edgeCounter := none }

/-- R30, R31: the same mode stores pending parameters; the other mode takes effect at once, with REF_STATE (R28). -/
def takeReference (mode : RefMode) (q : RefParams) (s : State) : State :=
  if s.reference.mode = mode then modifyReference (fun r => { r with pendingParams := some q }) s
  else
    match mode with
    | .follow => raiseRefState .searching (modifyReference (changeToFollow q) s)
    | .free => raiseRefState .free (modifyReference (changeToFree q) s)

/-- R29. -/
def bodySetReference : RequestBody := fun ops s =>
  match refModeOf (operand ops 0) with
  | none => (s, .badArgument 1)
  | some mode => checked (refChecks (refParamsOf ops)) s (takeReference mode (refParamsOf ops) s, .ok [])

/-- SET_REFERENCE (R29). -/
def execSetReference (s : State) : Host.Outcome State Fault Refusal :=
  .next (whileRunning s (runRequest 0x0F#8 bodySetReference))

end Sys2Proof.Machine
end

