-- ==== Sys2Proof/Machine/RouteRequests.lean ====
section
/-! DEFINITION. The route requests: READ_ROUTE_ENTRY (R85), WRITE_ROUTE_ENTRY (R84) and READ_SLOT_STATUS (R109, R130). -/

namespace Sys2Proof.Machine

/-- A request on the slot that operand 0 names: a number above 15 is answered BAD_ARGUMENT, reason slot. -/
def onSlot (body : Fin 16 → RequestBody) : RequestBody := fun ops s =>
  match indexOf 16 (operand ops 0) with
  | none => (s, .badArgument 1)
  | some k => body k ops s

/-! ## READ_ROUTE_ENTRY (R85) -/

/-- 12.4: the 9 fields of R83 in the order of its table. -/
def routeFieldWords (f : RouteFields) : List Word :=
  [flag f.enabled, num f.stream.val, num f.delay, num f.holdLimit, num f.substKind.code, f.fillWord, num f.fillLength,
   num f.egressPort.val, field f.outputTag]

/-- 12.4: a route entry and its parity, 0 good and 1 bad. -/
def routeEntryWords (e : RouteEntry) : List Word := routeFieldWords e.fields ++ [flag (!e.parityGood)]

/-- R85, 12.4: the active entry with its parity; whether one is pending; the pending entry with its parity, zeros when absent
(log entry 19). -/
def routeWords (r : Route) : List Word :=
  routeEntryWords r.active ++ [flag r.pending.isSome] ++
    (match r.pending with
     | none => List.replicate 10 0#32
     | some e => routeEntryWords e)

/-- R85. -/
def bodyReadRouteEntry : RequestBody := onSlot fun k _ s => (s, .ok (routeWords s.routes[k]))

/-- READ_ROUTE_ENTRY (R85). -/
def execReadRouteEntry (s : State) : Host.Outcome State Fault Refusal :=
  .next (whileRunning s (runRequest 0x0B#8 bodyReadRouteEntry))

/-! ## WRITE_ROUTE_ENTRY (R84) -/

/-- R84: the entry that the operands give. -/
def routeFieldsOf (ops : List Word) : RouteFields :=
  { enabled := operand ops 1 == 1
    stream := (indexOf 32 (operand ops 2)).getD 0
    delay := operand ops 3
    holdLimit := operand ops 4
    substKind := (substKindOf (operand ops 5)).getD .fill
    fillWord := ops.getD 6 0
    fillLength := operand ops 7
    egressPort := (indexOf 4 (operand ops 8)).getD 0
    outputTag := (ops.getD 9 0).extractLsb' 0 6 }

/-- R84: the checks after the slot number, in the order of the table. -/
def routeChecks (ops : List Word) : List (Bool × Answer) :=
  [((flagOf (operand ops 1)).isSome, .badArgument 2),
   (within 0 31 (operand ops 2), .badArgument 3),
   (within 0 7 (operand ops 3), .badArgument 4),
   (within 0 255 (operand ops 4), .badArgument 5),
   ((substKindOf (operand ops 5)).isSome, .badArgument 6),
   (within 1 4096 (operand ops 7), .badArgument 7),
   (within 0 3 (operand ops 8), .badArgument 8),
   (within 0 61 (operand ops 9), .badArgument 9)]

/-- R84: the whole entry stored as the pending entry, with fresh parity. -/
def storePending (k : Fin 16) (f : RouteFields) (s : State) : State :=
  modifyRoute k (fun r => { r with pending := some { fields := f, parityGood := true } }) s

/-- R84. -/
def bodyWriteRouteEntry : RequestBody := onSlot fun k ops s =>
  checked (routeChecks ops) s (storePending k (routeFieldsOf ops) s, .ok [])

/-- WRITE_ROUTE_ENTRY (R84). -/
def execWriteRouteEntry (s : State) : Host.Outcome State Fault Refusal :=
  .next (whileRunning s (runRequest 0x0C#8 bodyWriteRouteEntry))

/-! ## READ_SLOT_STATUS (R109, R130) -/

/-- 12.4: the words of an abort record: present, output tag, frame number, burst index; zeros when absent (log entry 19). -/
def abortWords (a : Option AbortRecord) : List Word :=
  match a with
  | none => List.replicate 4 0#32
  | some r => [1#32, field r.outputTag, field r.outputFrame, num r.index]

/-- R130: the HELD entries of a slot FIFO. -/
def heldEntries (u : EmissionUnit) : Nat := (u.fifo.filter fun e => e.state == .held).length

/-- 12.4: the presence word of ReadSlotStatus. -/
def slotPresence (c : SlotContext) (r : EmissionRecord) : Word :=
  presence
    [c.current.isSome, c.current.isSome, c.current.isSome, c.cause.isSome, r.sourceKind.isSome, r.buffer.isSome,
     r.buffer.isSome, r.fillTag.isSome, r.baseBlock.isSome, r.lastWords.isSome, r.fillWord.isSome]

/-- R109, 12.4: the words of a slot context. -/
def slotContextWords (c : SlotContext) : List Word :=
  [num c.state.code, optNum (c.current.map fun f => f.buffer.stream.val), optNum (c.current.map fun f => f.buffer.ring.val),
   optField (c.current.map fun f => f.sequence), num c.holdTimer, field c.outputFrame, optNum (c.cause.map SubstCause.code)]

/-- R130, 12.4: the words of an emission record. -/
def recordWords (r : EmissionRecord) : List Word :=
  [num r.status.code, optNum (r.sourceKind.map SourceKind.code), optNum (r.buffer.map fun b => b.stream.val),
   optNum (r.buffer.map fun b => b.ring.val), optField r.fillTag, optNum r.baseBlock, optNum r.lastWords,
   optField r.fillWord, num r.burstsTotal, num r.blocksRequested, num r.burstsSent, field r.outputFrame,
   num r.egressPort.val, field r.outputTag, flag r.isRepeat]

/-- R130, 12.4: the words of a slot FIFO. -/
def fifoWords (u : EmissionUnit) : List Word :=
  [num (fifoFill u), num (heldEntries u), flag u.readInFlight.isSome, flag (u.fifo.any fun e => e.state != .held)]

/-- R109, R130, 12.4: the slot status. -/
def slotStatusWords (k : Fin 16) (s : State) : List Word :=
  slotPresence s.slots[k] s.emissions[k].record :: slotContextWords s.slots[k] ++ recordWords s.emissions[k].record ++
    fifoWords s.emissions[k] ++ s.emissions[k].aborts.toList.flatMap abortWords

/-- R109. -/
def bodyReadSlotStatus : RequestBody := onSlot fun k _ s => (s, .ok (slotStatusWords k s))

/-- READ_SLOT_STATUS (R109). -/
def execReadSlotStatus (s : State) : Host.Outcome State Fault Refusal :=
  .next (whileRunning s (runRequest 0x0D#8 bodyReadSlotStatus))

end Sys2Proof.Machine
end

