-- ==== Sys2Proof/Machine/StreamRequests.lean ====
section
/-! DEFINITION. The stream requests: READ_STREAM_ENTRY (R36), WRITE_STREAM_ENTRY (R35), ENABLE_STREAM (R39, R40), DISABLE_STREAM
(R51), READ_STREAM_STATUS (R54) and READ_RING_STATUS (R80). -/

namespace Sys2Proof.Machine

/-- A request on the stream that operand 0 names: a number above 31 is answered BAD_ARGUMENT, reason stream. -/
def onStream (body : Fin 32 → RequestBody) : RequestBody := fun ops s =>
  match indexOf 32 (operand ops 0) with
  | none => (s, .badArgument 1)
  | some n => body n ops s

/-! ## READ_STREAM_ENTRY (R36) -/

/-- 12.4: the 13 fields of R34 in the order of its table. -/
def streamFieldWords (f : StreamFields) : List Word :=
  [num f.source.code, num f.regionBase, num f.bufferSize, num f.ringLength, num f.expectedBursts, num f.wordOrder.code,
   num f.windowMin, num f.windowMax, num f.lockCount, num f.cadenceLimit, num f.activityWindow, num f.activityThreshold,
   flag f.gapCheck]

/-- R36, 12.4: the entry as stored, then its parity, 0 good and 1 bad. -/
def streamEntryWords (e : StreamEntry) : List Word := streamFieldWords e.fields ++ [flag (!e.parityGood)]

/-- R36. -/
def bodyReadStreamEntry : RequestBody := onStream fun n _ s => (s, .ok (streamEntryWords s.entries[n]))

/-- READ_STREAM_ENTRY (R36). -/
def execReadStreamEntry (s : State) : Host.Outcome State Fault Refusal :=
  .next (whileRunning s (runRequest 0x05#8 bodyReadStreamEntry))

/-! ## WRITE_STREAM_ENTRY (R35) -/

/-- The gap check stored for an operand: 0 off, 1 on (12.5); R35 has no check for another value, which is open (log entry 15). -/
def gapCheckStored (w : Word) : Bool :=
  if w = 0#32 then false else if w = 1#32 then true else Config.gapCheckOf w

/-- R35: the entry that the operands give. -/
def streamFieldsOf (ops : List Word) : StreamFields :=
  { source := (sourceOf (operand ops 1)).getD (.ingress 0)
    regionBase := operand ops 2
    bufferSize := operand ops 3
    ringLength := operand ops 4
    expectedBursts := operand ops 5
    wordOrder := (wordOrderOf (operand ops 6)).getD .normal
    windowMin := operand ops 7
    windowMax := operand ops 8
    lockCount := operand ops 9
    cadenceLimit := operand ops 10
    activityWindow := operand ops 11
    activityThreshold := operand ops 12
    gapCheck := gapCheckStored (ops.getD 13 0) }

/-- R35: the checks after the stream number, in the order of the table. -/
def streamEntryChecks (n : Fin 32) (ops : List Word) (s : State) : List (Bool × Answer) :=
  [(s.contexts[n].state == .off, .refused),
   ((sourceOf (operand ops 1)).isSome, .badArgument 2),
   (decide (operand ops 2 < s.memory.blocks), .badArgument 3),
   (within 1 4096 (operand ops 3), .badArgument 4),
   (within 2 8 (operand ops 4), .badArgument 5),
   (within 0 4096 (operand ops 5), .badArgument 6),
   ((wordOrderOf (operand ops 6)).isSome, .badArgument 7),
   (within 0 0xFFFFFE (operand ops 7) && within 0 0xFFFFFE (operand ops 8), .badArgument 8),
   (within 1 15 (operand ops 9), .badArgument 9),
   (within 1 15 (operand ops 10), .badArgument 10),
   (within 1 15 (operand ops 11), .badArgument 11),
   (within 1 15 (operand ops 12), .badArgument 12)]

/-- R35, R37: the whole entry replaced, with fresh parity. -/
def storeStreamEntry (n : Fin 32) (f : StreamFields) (s : State) : State :=
  { s with entries := s.entries.set n { fields := f, parityGood := true } }

/-- R35. -/
def bodyWriteStreamEntry : RequestBody := onStream fun n ops s =>
  checked (streamEntryChecks n ops s) s (storeStreamEntry n (streamFieldsOf ops) s, .ok [])

/-- WRITE_STREAM_ENTRY (R35). -/
def execWriteStreamEntry (s : State) : Host.Outcome State Fault Refusal :=
  .next (whileRunning s (runRequest 0x06#8 bodyWriteStreamEntry))

/-! ## ENABLE_STREAM (R39, R40) -/

/-- R34: two regions share a block. -/
def regionsMeet (a b : StreamFields) : Bool :=
  decide (a.regionBase < b.regionBase + regionSize b) && decide (b.regionBase < a.regionBase + regionSize a)

/-- The streams other than `n` that are not OFF. -/
def othersNotOff (s : State) (n : Fin 32) : List (Fin 32) :=
  (indexes 32).filter fun m => m != n && s.contexts[m].state != .off

/-- R39: the checks after the entry's parity, in the order of the table. -/
def enableChecks (n : Fin 32) (s : State) : List (Bool × Answer) :=
  let f := fieldsOf s n
  [(decide (f.regionBase + regionSize f ≤ s.memory.blocks), .badArgument 3),
   (f.expectedBursts == 0 || decide (f.expectedBursts ≤ f.bufferSize), .badArgument 4),
   (decide (f.windowMin ≤ f.windowMax), .badArgument 5),
   ((othersNotOff s n).all (fun m => !regionsMeet f (fieldsOf s m)), .badArgument 6),
   (f.source != .generator || (othersNotOff s n).all (fun m => (fieldsOf s m).source != .generator), .badArgument 7)]

/-- R40: the context on entry to ACQUIRING. The ring is EMPTY already (R52, R81) and writes outstanding is 0. -/
def enabledContext (c : StreamContext) : StreamContext :=
  { c with
    state := .acquiring, intervalCounter := 0, measuring := false, lastInterval := none, rateClass := none,
    lastFrameNumber := none, lockProgress := 0, cadenceRun := 0, windowTicks := 0, windowFrames := 0, sequenceCounter := 0,
    fillTagCounter := 0, refusing := false, activityDue := false }

/-- R39, R37: the stream number and state, then the parity, whose failure raises TABLE_PARITY, then the other checks. -/
def bodyEnableStream : RequestBody := onStream fun n _ s =>
  if s.contexts[n].state ≠ .off then (s, .refused)
  else if s.entries[n].parityGood then checked (enableChecks n s) s (modifyContext n enabledContext s, .ok [])
  else (majorFault .tableParity .streamTable n.val none s, .badArgument 2)

/-- ENABLE_STREAM (R39). -/
def execEnableStream (s : State) : Host.Outcome State Fault Refusal :=
  .next (whileRunning s (runRequest 0x07#8 bodyEnableStream))

/-! ## DISABLE_STREAM (R51) -/

/-- R51. -/
def bodyDisableStream : RequestBody := onStream fun n _ s =>
  if inService s.contexts[n].state then (enterClosing n s, .ok []) else (s, .refused)

/-- DISABLE_STREAM (R51). -/
def execDisableStream (s : State) : Host.Outcome State Fault Refusal :=
  .next (whileRunning s (runRequest 0x08#8 bodyDisableStream))

/-! ## READ_STREAM_STATUS (R54) -/

/-- R54, 12.4: the context. -/
def streamStatusWords (c : StreamContext) : List Word :=
  [presence [c.lastInterval.isSome, c.intervalMin.isSome, c.intervalMax.isSome, c.rateClass.isSome, c.lastFrameNumber.isSome],
   num c.state.code, num c.intervalCounter, flag c.measuring, optNum c.lastInterval, optNum c.intervalMin,
   optNum c.intervalMax, optNum (c.rateClass.map RateClass.code), num c.lockProgress, num c.cadenceRun, num c.windowTicks,
   num c.windowFrames, optField c.lastFrameNumber, field c.sequenceCounter, field c.fillTagCounter, num c.writesOutstanding,
   flag c.refusing]

/-- R54. -/
def bodyReadStreamStatus : RequestBody := onStream fun n _ s => (s, .ok (streamStatusWords s.contexts[n]))

/-- READ_STREAM_STATUS (R54). -/
def execReadStreamStatus (s : State) : Host.Outcome State Fault Refusal :=
  .next (whileRunning s (runRequest 0x09#8 bodyReadStreamStatus))

/-! ## READ_RING_STATUS (R80) -/

/-- 12.4: the five words of a buffer. -/
def bufferWords (b : Buffer) : List Word :=
  [(BitVec.ofNat 3 b.state.code ++ BitVec.ofBool b.mediaError ++ BitVec.ofNat 5 b.holdCount ++
      BitVec.ofBool b.stamp.isSome ++ BitVec.ofBool b.sequence.isSome ++ BitVec.ofBool b.burstCount.isSome ++
      BitVec.ofBool b.lastWords.isSome ++ BitVec.ofBool b.nextIndex.isSome ++ BitVec.ofBool b.sourceFrame.isSome ++
      0#9 ++ b.fillTag : BitVec 32),
   (b.sourceFrame.getD 0 ++ BitVec.ofNat 13 (b.nextIndex.getD 0) ++ 0#3 : BitVec 32),
   (BitVec.ofNat 13 (b.burstCount.getD 0) ++ BitVec.ofNat 7 (b.lastWords.getD 0) ++ 0#12 : BitVec 32),
   b.sequence.getD 0,
   b.stamp.getD 0]

/-- R80, 12.4: the ring length as stored, then each buffer of the ring. R188 gives 1 + 5 x ring length words for a ring of 2 to 8
buffers. For a disturbed entry (R166) that stores a length above 8 the spec states no result: the length as stored and the five words of
each of the eight buffers that exist (R56) is the model's choice (log entry 36). -/
def ringStatusWords (n : Fin 32) (s : State) : List Word :=
  num (fieldsOf s n).ringLength :: (s.rings[n].toList.take (fieldsOf s n).ringLength).flatMap bufferWords

/-- R80. -/
def bodyReadRingStatus : RequestBody := onStream fun n _ s => (s, .ok (ringStatusWords n s))

/-- READ_RING_STATUS (R80). -/
def execReadRingStatus (s : State) : Host.Outcome State Fault Refusal :=
  .next (whileRunning s (runRequest 0x0A#8 bodyReadRingStatus))

end Sys2Proof.Machine
end

