-- ==== Sys2Proof/Machine/TestRequests.lean ====
section
/-! DEFINITION. The test requests: GENERATOR_START (R156), GENERATOR_STOP (R159), CHECKER_SETUP (R161), CHECKER_SNAPSHOT (R164)
and READ_TEST_STATUS (R165). -/

namespace Sys2Proof.Machine

/-! ## GENERATOR_START (R156) -/

/-- R156: the checks after the stream number, in the order of the table. -/
def generatorChecks (n : Fin 32) (ops : List Word) (s : State) : List (Bool × Answer) :=
  [((patternOf (operand ops 1)).isSome, .badArgument 2),
   (within 1 4096 (operand ops 3), .badArgument 3),
   (within 0 65535 (operand ops 4), .badArgument 4),
   (within 1 255 (operand ops 5), .badArgument 5),
   (s.generator.state == .stopped, .refused),
   (s.faults.mode == .normal, .refused),
   ((fieldsOf s n).source == .generator, .refused),
   (inService s.contexts[n].state, .refused)]

/-- R156: the record set up for a run. -/
def startedGenerator (n : Fin 32) (ops : List Word) : Generator :=
  { state := .running, stream := some n, pattern := (patternOf (operand ops 1)).getD .count, fillWord := ops.getD 2 0,
    frameLength := operand ops 3, frameCount := operand ops 4, spacing := operand ops 5, ticksSinceStart := none,
    inProgress := false, burstsTaken := 0, framesDone := 0, nextFrameNumber := 0, stopRequested := false, countValue := 0,
    pnRegister := BitVec.allOnes 23, waiting := none, frameStartDue := false }

/-- R156. -/
def bodyGeneratorStart : RequestBody := fun ops s =>
  match indexOf 32 (operand ops 0) with
  | none => (s, .badArgument 1)
  | some n => checked (generatorChecks n ops s) s ({ s with generator := startedGenerator n ops }, .ok [])

/-- GENERATOR_START (R156). -/
def execGeneratorStart (s : State) : Host.Outcome State Fault Refusal :=
  .next (whileRunning s (runRequest 0x1D#8 bodyGeneratorStart))

/-! ## GENERATOR_STOP (R159) -/

/-- R159: a stop with no frame in progress takes effect at once; otherwise it is requested. -/
def stoppedGenerator (g : Generator) : Generator :=
  if g.inProgress then { g with stopRequested := true } else { g with state := .stopped, frameStartDue := false }

/-- R159. -/
def bodyGeneratorStop : RequestBody := fun _ s =>
  match s.generator.state with
  | .stopped => (s, .refused)
  | .running => ({ s with generator := stoppedGenerator s.generator }, .ok [])

/-- GENERATOR_STOP (R159). -/
def execGeneratorStop (s : State) : Host.Outcome State Fault Refusal :=
  .next (whileRunning s (runRequest 0x1E#8 bodyGeneratorStop))

/-! ## CHECKER_SETUP (R161) -/

/-- R161: a tap index within the range of its tap; any value for NONE. -/
def tapIndexGood (tap : Tap) (index : Nat) : Bool :=
  match tap with
  | .none => true
  | .stream => decide (index ≤ 31)
  | .slot => decide (index ≤ 15)

/-- R161: the state after a setup. -/
def stateForTap (tap : Tap) : CheckerState :=
  match tap with
  | .none => .idle
  | .stream => .seeking
  | .slot => .seeking

/-- R161: the checker set up. -/
def setUpChecker (tap : Tap) (ops : List Word) : Checker :=
  { state := stateForTap tap, tap := tap, tapIndex := operand ops 1, pattern := (patternOf (operand ops 2)).getD .count,
    fillWord := ops.getD 3 0, restartAtFrame := operand ops 4 == 1, expectation := none, matchRun := 0, mismatchRun := 0,
    words := 0, errors := 0, frames := 0 }

/-- R161: the checks after the tap, in the order of the table. -/
def checkerChecks (tap : Tap) (ops : List Word) : List (Bool × Answer) :=
  [(tapIndexGood tap (operand ops 1), .badArgument 2),
   ((patternOf (operand ops 2)).isSome, .badArgument 3),
   ((flagOf (operand ops 4)).isSome, .badArgument 4)]

/-- R161. -/
def bodyCheckerSetup : RequestBody := fun ops s =>
  match tapOf (operand ops 0) with
  | none => (s, .badArgument 1)
  | some tap => checked (checkerChecks tap ops) s ({ s with checker := setUpChecker tap ops }, .ok [])

/-- CHECKER_SETUP (R161). -/
def execCheckerSetup (s : State) : Host.Outcome State Fault Refusal :=
  .next (whileRunning s (runRequest 0x1F#8 bodyCheckerSetup))

/-! ## CHECKER_SNAPSHOT (R164) -/

/-- R164 steps 1 and 2: the checker's bank as copied. -/
def checkerCopied (clear : Bool) (s : State) : CheckerBank :=
  { words := s.checker.words, errors := s.checker.errors, frames := s.checker.frames, tick := some s.reference.tickNumber,
    cleared := clear }

/-- R164 step 3: the three live values after the snapshot. -/
def checkerAfter (clear : Bool) (c : Checker) : Checker :=
  if clear then { c with words := 0, errors := 0, frames := 0 } else c

/-- R164, 12.4: WORDS, ERRORS, FRAMES, snapshot tick, cleared. -/
def checkerBankWords (b : CheckerBank) : List Word :=
  [field b.words, field b.errors, field b.frames, optField b.tick, flag b.cleared]

/-- R164. -/
def bodyCheckerSnapshot : RequestBody := fun ops s =>
  match flagOf (operand ops 0) with
  | none => (s, .badArgument 1)
  | some clear =>
    ({ s with checkerBank := checkerCopied clear s, checker := checkerAfter clear s.checker },
      .ok (checkerBankWords (checkerCopied clear s)))

/-- CHECKER_SNAPSHOT (R164). -/
def execCheckerSnapshot (s : State) : Host.Outcome State Fault Refusal :=
  .next (whileRunning s (runRequest 0x20#8 bodyCheckerSnapshot))

/-! ## READ_TEST_STATUS (R165) -/

/-- 12.4: the words of the generator record. -/
def generatorWords (g : Generator) : List Word :=
  [num g.state.code, optNum (g.stream.map fun n => n.val), num g.pattern.code, g.fillWord, num g.frameLength, num g.frameCount,
   num g.spacing, optNum g.ticksSinceStart, flag g.inProgress, num g.burstsTaken, field g.framesDone,
   field g.nextFrameNumber, flag g.stopRequested, field g.countValue, field g.pnRegister]

/-- 12.4: the words of the checker. -/
def checkerWords (c : Checker) : List Word :=
  [num c.state.code, num c.tap.code, num c.tapIndex, num c.pattern.code, c.fillWord, flag c.restartAtFrame, num c.matchRun,
   num c.mismatchRun]

/-- R165, 12.4: presence (stream, ticks since start, expectation), the generator, the checker. -/
def testStatusWords (s : State) : List Word :=
  presence [s.generator.stream.isSome, s.generator.ticksSinceStart.isSome, s.checker.expectation.isSome]
    :: generatorWords s.generator ++ checkerWords s.checker

/-- R165. -/
def bodyReadTestStatus : RequestBody := fun _ s => (s, .ok (testStatusWords s))

/-- READ_TEST_STATUS (R165). -/
def execReadTestStatus (s : State) : Host.Outcome State Fault Refusal :=
  .next (whileRunning s (runRequest 0x21#8 bodyReadTestStatus))

end Sys2Proof.Machine
end

