-- ==== Sys2Proof/Machine/Idle.lean ====
section
/-! DEFINITION. What the part does with no command waiting: the first of its own events that is due, and one timebase unit passing
when none is and TBCLK runs (log entries 3 and 30). -/

namespace Sys2Proof.Machine

/-! ## One timebase unit -/

/-- R22, R24 to R26: c counts in every mode; e counts while present and stops at P + T + 1. -/
def unitReference (r : Reference) : Reference :=
  { r with
    periodCounter := r.periodCounter + 1
    edgeCounter := r.edgeCounter.map fun e => min (e + 1) (r.params.period + r.params.tolerance + 1) }

/-- R42: the interval counter of a measuring stream in service counts up to FFFFFFh; reaching it is noted for INTERVAL_OVERFLOW. -/
def unitContext (c : StreamContext) : StreamContext :=
  if inService c.state && c.measuring && decide (c.intervalCounter < Config.intervalMax) then
    { c with
      intervalCounter := c.intervalCounter + 1
      overflowDue := c.overflowDue || c.intervalCounter + 1 == Config.intervalMax }
  else c

/-- A pending route entry disturbed from outside (R166). -/
def disturbPending (stored : RouteFields) (r : Route) : Route :=
  { r with pending := r.pending.map fun _ => { fields := stored, parityGood := false } }

/-- R19, R138, R166: what happens to the part from outside in one timebase unit (log entries 13 and 30). -/
def upsetBy (u : Upset) (s : State) : State :=
  match u with
  | .quiet => s
  | .streamEntry n stored => { s with entries := s.entries.set n { fields := stored, parityGood := false } }
  | .activeRoute k stored => modifyRoute k (fun r => { r with active := { fields := stored, parityGood := false } }) s
  | .pendingRoute k stored => modifyRoute k (disturbPending stored) s
  | .memoryBit w bit =>
    { s with memory := { s.memory with badBits := toggleBadBit s.memory.badBits (72 * w + bit.val) } }
  | .clockStops => { s with timebaseRuns := false }
  | .clockRuns => { s with timebaseRuns := true }

/-- The next disturbance on the tape, if any, taken. -/
def takeUpset (s : State) : State :=
  match s.upsets with
  | [] => s
  | u :: rest => upsetBy u { s with upsets := rest }

/-- R137: the refresh timer counts timebase units. -/
def unitArbiter (a : Arbiter) : Arbiter := { a with refreshTimer := a.refreshTimer + 1 }

/-- What counts timebase units counts one (R22, R26, R42, R137). -/
def countUnit (s : State) : State :=
  { s with
    reference := unitReference s.reference
    contexts := mapTable unitContext s.contexts
    arbiter := unitArbiter s.arbiter }

/-- R19: one timebase unit passes while TBCLK runs; while it stands every counter stands, and only the world outside goes on. -/
def timeUnit (s : State) : State := takeUpset (whileClocked countUnit s)

/-! ## The part's own events that are due -/

/-- 12.3: the row of a request code. -/
def rowOfCode (code : BitVec 8) : Option Instr :=
  match code.toNat with
  | 0x01 => some .readIdentity
  | 0x02 => some .resetPart
  | 0x03 => some .readPorts
  | 0x04 => some .writePorts
  | 0x05 => some .readStreamEntry
  | 0x06 => some .writeStreamEntry
  | 0x07 => some .enableStream
  | 0x08 => some .disableStream
  | 0x09 => some .readStreamStatus
  | 0x0A => some .readRingStatus
  | 0x0B => some .readRouteEntry
  | 0x0C => some .writeRouteEntry
  | 0x0D => some .readSlotStatus
  | 0x0E => some .readReference
  | 0x0F => some .setReference
  | 0x10 => some .readArbitration
  | 0x11 => some .setArbitration
  | 0x12 => some .memoryRead
  | 0x13 => some .memoryWrite
  | 0x14 => some .snapshotCounters
  | 0x15 => some .readCounters
  | 0x16 => some .setCounterMode
  | 0x17 => some .readEvent
  | 0x18 => some .readEventState
  | 0x19 => some .clearEvents
  | 0x1A => some .writeEventMask
  | 0x1B => some .readFaultRecord
  | 0x1C => some .clearFaults
  | 0x1D => some .generatorStart
  | 0x1E => some .generatorStop
  | 0x1F => some .checkerSetup
  | 0x20 => some .checkerSnapshot
  | 0x21 => some .readTestStatus
  | _ => none

/-- R178, R179: the row of the head request: its own, or BAD_REQUEST when a form check fails. -/
def rowOfRequest (p : List Word) : Instr :=
  if formGood p then (rowOfCode (requestCode p)).getD .badRequest else .badRequest

/-- R179: the request that an IDLE executor takes. -/
def requestDue (s : State) : List Instr :=
  if executorIdle s then (s.requestQueue.head?.map rowOfRequest).toList else []

/-- A row, when it is due. -/
def dueIf (due : Bool) (i : Instr) : List Instr := if due then [i] else []

/-- R158: the generator waits with a burst and the write queue has a free entry. -/
def generatorBurstDue (s : State) : Bool :=
  s.generator.waiting.isSome && s.generator.stream.isSome && writeQueueHasRoom s

/-- R157: a frame start of a RUNNING generator is due. -/
def generatorFrameDue (g : Generator) : Bool := g.state == .running && g.stream.isSome && g.frameStartDue

/-- What a tick or the passing of time has left due: judgements, expired holds, a frame start, overflows, the refresh timer and the
reference unit, which makes no tick while TBCLK stands (R19). -/
def dueByTime (s : State) : List Instr :=
  ((indexes 32).filter (judgementDue s)).map Instr.activityJudgement ++
    ((indexes 16).filter fun k => s.slots[k].holdExpiryDue).map Instr.holdExpired ++
    dueIf (generatorFrameDue s.generator) .generatorFrameStart ++
    ((indexes 32).filter fun n => s.contexts[n].overflowDue).map Instr.intervalOverflow ++
    dueIf (refreshTimerDue s.arbiter) .refreshTimerExpiry ++
    dueIf (s.timebaseRuns && freeExpiryDue s.reference) (.freePeriodExpiry []) ++
    dueIf (s.timebaseRuns && windowCloseDue s.reference) (.windowClose []) ++
    dueIf (s.timebaseRuns && flywheelDue s.reference) (.searchingFlywheel [])

/-- What the queues have left due: replies, requests, bursts, memory and the egress ports. -/
def dueByQueues (s : State) : List Instr :=
  dueIf (replySpaceDue s) .replySpaceFreed ++ requestDue s ++
    dueIf (waitingDue s) .waitingBurstAccepted ++
    dueIf (generatorBurstDue s) .generatorBurstTaken ++
    dueIf (dispatchDue s) .dispatchBurst ++
    dueIf (grantDue s) .memoryGrant ++
    ((indexes 4).filter (egressDue s)).map Instr.egressGrant

/-- The event that the part takes by itself: the first that is due, in a fixed order (log entry 3). -/
def dueEvent (s : State) : Option Instr := (dueByTime s ++ dueByQueues s).head?

end Sys2Proof.Machine
end

