-- ==== Sys2Proof/Machine/Dispatch.lean ====
section
/-! DEFINITION. One arm per command: a direct call of its meaning. -/

namespace Sys2Proof.Machine

def exec (i : Instr) (s : State) : Host.Outcome State Fault Refusal :=
  match i with
  | .powerOnReset memsz cells badBits => Sys2Proof.Machine.execPowerOnReset memsz cells badBits s
  | .pinReset memsz => Sys2Proof.Machine.execPinReset memsz s
  | .ingressBurstJudged port reception => Sys2Proof.Machine.execIngressBurstJudged port reception s
  | .dispatchBurst => Sys2Proof.Machine.execDispatchBurst s
  | .waitingBurstAccepted => Sys2Proof.Machine.execWaitingBurstAccepted s
  | .memoryGrant => Sys2Proof.Machine.execMemoryGrant s
  | .writeCompletion => Sys2Proof.Machine.execWriteCompletion s
  | .slotReadCompletion => Sys2Proof.Machine.execSlotReadCompletion s
  | .managementAccessCompletion => Sys2Proof.Machine.execManagementAccessCompletion s
  | .refreshCompletion => Sys2Proof.Machine.execRefreshCompletion s
  | .refreshTimerExpiry => Sys2Proof.Machine.execRefreshTimerExpiry s
  | .refEdge order => Sys2Proof.Machine.execRefEdge order s
  | .freePeriodExpiry order => Sys2Proof.Machine.execFreePeriodExpiry order s
  | .windowClose order => Sys2Proof.Machine.execWindowClose order s
  | .searchingFlywheel order => Sys2Proof.Machine.execSearchingFlywheel order s
  | .activityJudgement stream => Sys2Proof.Machine.execActivityJudgement stream s
  | .intervalOverflow stream => Sys2Proof.Machine.execIntervalOverflow stream s
  | .holdExpired slot => Sys2Proof.Machine.execHoldExpired slot s
  | .generatorFrameStart => Sys2Proof.Machine.execGeneratorFrameStart s
  | .generatorBurstTaken => Sys2Proof.Machine.execGeneratorBurstTaken s
  | .egressGrant port => Sys2Proof.Machine.execEgressGrant port s
  | .egressBurstCompletion port => Sys2Proof.Machine.execEgressBurstCompletion port s
  | .replySpaceFreed => Sys2Proof.Machine.execReplySpaceFreed s
  | .readIdentity => Sys2Proof.Machine.execReadIdentity s
  | .resetPart => Sys2Proof.Machine.execResetPart s
  | .readPorts => Sys2Proof.Machine.execReadPorts s
  | .writePorts => Sys2Proof.Machine.execWritePorts s
  | .readStreamEntry => Sys2Proof.Machine.execReadStreamEntry s
  | .writeStreamEntry => Sys2Proof.Machine.execWriteStreamEntry s
  | .enableStream => Sys2Proof.Machine.execEnableStream s
  | .disableStream => Sys2Proof.Machine.execDisableStream s
  | .readStreamStatus => Sys2Proof.Machine.execReadStreamStatus s
  | .readRingStatus => Sys2Proof.Machine.execReadRingStatus s
  | .readRouteEntry => Sys2Proof.Machine.execReadRouteEntry s
  | .writeRouteEntry => Sys2Proof.Machine.execWriteRouteEntry s
  | .readSlotStatus => Sys2Proof.Machine.execReadSlotStatus s
  | .readReference => Sys2Proof.Machine.execReadReference s
  | .setReference => Sys2Proof.Machine.execSetReference s
  | .readArbitration => Sys2Proof.Machine.execReadArbitration s
  | .setArbitration => Sys2Proof.Machine.execSetArbitration s
  | .memoryRead => Sys2Proof.Machine.execMemoryRead s
  | .memoryWrite => Sys2Proof.Machine.execMemoryWrite s
  | .snapshotCounters => Sys2Proof.Machine.execSnapshotCounters s
  | .readCounters => Sys2Proof.Machine.execReadCounters s
  | .setCounterMode => Sys2Proof.Machine.execSetCounterMode s
  | .readEvent => Sys2Proof.Machine.execReadEvent s
  | .readEventState => Sys2Proof.Machine.execReadEventState s
  | .clearEvents => Sys2Proof.Machine.execClearEvents s
  | .writeEventMask => Sys2Proof.Machine.execWriteEventMask s
  | .readFaultRecord => Sys2Proof.Machine.execReadFaultRecord s
  | .clearFaults => Sys2Proof.Machine.execClearFaults s
  | .generatorStart => Sys2Proof.Machine.execGeneratorStart s
  | .generatorStop => Sys2Proof.Machine.execGeneratorStop s
  | .checkerSetup => Sys2Proof.Machine.execCheckerSetup s
  | .checkerSnapshot => Sys2Proof.Machine.execCheckerSnapshot s
  | .readTestStatus => Sys2Proof.Machine.execReadTestStatus s
  | .pinResetBegin => Sys2Proof.Machine.execPinResetBegin s
  | .badRequest => Sys2Proof.Machine.execBadRequest s

end Sys2Proof.Machine
end

