-- ==== Sys2Proof/Machine/Step.lean ====
section
/-! DEFINITION. One step of the part: the command at the front of the queue, or what the part does by itself. -/

namespace Sys2Proof.Machine

/-- A step with no command waiting: the first of the part's own events that is due, else one timebase unit passes (log entry 3).
While RST_N is low nothing happens (R186). -/
def idleStep (s : State) : Host.Outcome State Fault Refusal :=
  if s.resetHeld.isSome then .next s
  else
    match dueEvent s with
    | some c => exec c s
    | none => .next (timeUnit s)

/-- One step: the command at the front of the queue is taken and carried out on the state with the rest of the queue. -/
def step (s : State) : Host.Outcome State Fault Refusal :=
  match s.pending with
  | c :: rest => exec c { s with pending := rest }
  | [] => idleStep s

/-- The state with the command that a table word spells put at the front of its queue; no word spells one (log entry 9). -/
def State.withFetchWord (s : State) (nbits w : Nat) : State :=
  match decodeTableWord nbits w with
  | some c => { s with pending := c :: s.pending }
  | none => s

end Sys2Proof.Machine
end

