-- ==== Sys2Proof/WellFormed.lean ====
section
/-! DEFINITION. Which commands are well formed: the operands that an environment can give. -/

namespace Sys2Proof

/-- Cells in canonical form below a bound: addresses strictly rising from `low`, none equal to what an unlisted address reads as. -/
def cellsGood (bound low : Nat) (cells : List Host.Cell) : Bool :=
  match cells with
  | [] => true
  | (a, v) :: rest =>
    decide (low ≤ a) && decide (a < bound) && v != Config.unlistedByte && cellsGood bound (a + 1) rest

/-- Bits in error strictly rising from `low`, below a bound. -/
def bitsGood (bound low : Nat) (bits : List Nat) : Bool :=
  match bits with
  | [] => true
  | b :: rest => decide (low ≤ b) && decide (b < bound) && bitsGood bound (b + 1) rest

/-- No work named twice in the order of a tick (R20: each block acts once). -/
def orderGood (order : List TickWork) : Bool := decide order.Nodup

/-- R131: a power-on image names bytes (256 to a block) and memory words (32 to a block, 72 bits each) that frame memory has at the size
that the power-on strap chooses; so a size that grows at a later RST_N adds blocks that no image names (log entry 33). -/
def imageGood (memsz : BitVec 2) (cells : List Host.Cell) (badBits : List Nat) : Bool :=
  cellsGood (256 * Config.blocksOfStrap memsz) 0 cells && bitsGood (2304 * Config.blocksOfStrap memsz) 0 badBits

/-- A well-formed command. -/
def Instr.wellFormed (i : Instr) : Bool :=
  match i with
  | .powerOnReset memsz cells badBits => imageGood memsz cells badBits
  | .refEdge order => orderGood order
  | .freePeriodExpiry order => orderGood order
  | .windowClose order => orderGood order
  | .searchingFlywheel order => orderGood order
  | _ => true

end Sys2Proof
end

