-- ==== Sys2Proof/Safety.lean ====
section
/-! DEFINITION. The vocabulary of the statements: what a command leaves unchanged, what a reset leaves of a write, when a request is taken,
and the laws of the part that every step keeps. -/

namespace Sys2Proof.Machine

/-! ## What a command leaves unchanged -/

/-- The fields of State, by name. -/
inductive Field where
  | ingress
  | dispatcher
  | egress
  | replyPort
  | reference
  | entries
  | contexts
  | rings
  | routes
  | slots
  | emissions
  | writeQueue
  | arbiter
  | memory
  | counterMode
  | live
  | snapshot
  | generator
  | checker
  | checkerBank
  | faults
  | latches
  | requestQueue
  | executor
  | replyQueue
  | lastResetCause
  | resetHeld
  | timebaseRuns
  | pending
  | upsets
  | freeCount
deriving DecidableEq, Repr

/-- A field has the same value in two states. -/
def Field.same (f : Field) (s t : State) : Prop :=
  match f with
  | .ingress => t.ingress = s.ingress
  | .dispatcher => t.dispatcher = s.dispatcher
  | .egress => t.egress = s.egress
  | .replyPort => t.replyPort = s.replyPort
  | .reference => t.reference = s.reference
  | .entries => t.entries = s.entries
  | .contexts => t.contexts = s.contexts
  | .rings => t.rings = s.rings
  | .routes => t.routes = s.routes
  | .slots => t.slots = s.slots
  | .emissions => t.emissions = s.emissions
  | .writeQueue => t.writeQueue = s.writeQueue
  | .arbiter => t.arbiter = s.arbiter
  | .memory => t.memory = s.memory
  | .counterMode => t.counterMode = s.counterMode
  | .live => t.live = s.live
  | .snapshot => t.snapshot = s.snapshot
  | .generator => t.generator = s.generator
  | .checker => t.checker = s.checker
  | .checkerBank => t.checkerBank = s.checkerBank
  | .faults => t.faults = s.faults
  | .latches => t.latches = s.latches
  | .requestQueue => t.requestQueue = s.requestQueue
  | .executor => t.executor = s.executor
  | .replyQueue => t.replyQueue = s.replyQueue
  | .lastResetCause => t.lastResetCause = s.lastResetCause
  | .resetHeld => t.resetHeld = s.resetHeld
  | .timebaseRuns => t.timebaseRuns = s.timebaseRuns
  | .pending => t.pending = s.pending
  | .upsets => t.upsets = s.upsets
  | .freeCount => t.freeCount = s.freeCount

/-- Every field not named is unchanged. -/
def Keeps (touched : List Field) (s t : State) : Prop := ∀ f : Field, f ∉ touched → f.same s t

/-- The fields that the taking of a media burst by stream acceptance can touch (R60). -/
abbrev acceptTouches : List Field := [.contexts, .rings, .writeQueue, .checker, .live, .latches]

/-- The fields that a decision of the dispatcher can touch (R9 to R11). -/
abbrev dispatchTouches : List Field :=
  [.ingress, .dispatcher, .requestQueue, .faults, .contexts, .rings, .writeQueue, .checker, .generator, .live, .latches]

/-- The fields that a slot's work at a tick can touch (R87). -/
abbrev slotTouches : List Field :=
  [.routes, .faults, .ingress, .dispatcher, .generator, .slots, .rings, .contexts, .emissions, .live, .latches]

/-- The fields that the generator's bursts can touch (R158, R60). -/
abbrev generatorTouches : List Field := [.generator, .contexts, .rings, .writeQueue, .checker, .live, .latches]

/-- The fields that a tick can touch beside the reference unit (R20). -/
abbrev tickTouches : List Field :=
  [.routes, .faults, .ingress, .dispatcher, .generator, .slots, .rings, .contexts, .emissions, .writeQueue, .checker, .live,
   .latches]

/-- The fields that a row of the reference unit can touch. -/
abbrev referenceTouches : List Field := .reference :: tickTouches

/-- The fields that a fault's report can touch (R168 to R170). -/
abbrev faultTouches : List Field := [.faults, .ingress, .dispatcher, .generator, .latches, .live]

/-- The fields that a reset can touch: all but the queue of commands, the tape of upsets and the clock on TBCLK. -/
abbrev resetTouches : List Field :=
  [.ingress, .dispatcher, .egress, .replyPort, .reference, .entries, .contexts, .rings, .routes, .slots, .emissions,
   .writeQueue, .arbiter, .memory, .counterMode, .live, .snapshot, .generator, .checker, .checkerBank, .faults, .latches,
   .requestQueue, .executor, .replyQueue, .lastResetCause, .resetHeld, .freeCount]

/-- The fields that every request's path touches (R179, R182). -/
abbrev pathTouches : List Field := [.requestQueue, .executor, .replyQueue]

/-- The fields that a command can touch (95_what_each_step_holds.md and the rules it names); every other field is unchanged. -/
def touches (i : Instr) : List Field :=
  match i with
  | .powerOnReset _ _ _ => .timebaseRuns :: resetTouches
  | .pinReset _ => resetTouches
  | .pinResetBegin => resetTouches
  | .ingressBurstJudged _ _ => [.ingress, .live, .latches]
  | .dispatchBurst => dispatchTouches
  | .waitingBurstAccepted => dispatchTouches
  | .memoryGrant => [.arbiter, .writeQueue, .emissions]
  | .writeCompletion => faultTouches ++ [.memory, .writeQueue, .arbiter, .contexts, .rings]
  | .slotReadCompletion => faultTouches ++ [.arbiter, .emissions, .rings]
  | .managementAccessCompletion => faultTouches ++ [.memory, .arbiter, .replyQueue, .executor]
  | .refreshCompletion => [.arbiter]
  | .refreshTimerExpiry => [.arbiter, .faults, .ingress, .dispatcher, .generator, .latches]
  | .refEdge _ => referenceTouches
  | .freePeriodExpiry _ => referenceTouches
  | .windowClose _ => referenceTouches
  | .searchingFlywheel _ => referenceTouches
  | .activityJudgement _ => [.contexts, .latches, .rings]
  | .intervalOverflow _ => [.contexts, .latches]
  | .holdExpired _ => [.slots, .rings, .contexts, .live, .latches, .emissions]
  | .generatorFrameStart => generatorTouches ++ [.faults, .ingress, .dispatcher]
  | .generatorBurstTaken => generatorTouches
  | .egressGrant _ => resetTouches
  | .egressBurstCompletion _ => resetTouches
  | .replySpaceFreed => [.replyQueue, .executor]
  | .writePorts => pathTouches ++ [.ingress, .egress, .dispatcher, .replyPort]
  | .writeStreamEntry => pathTouches ++ [.entries]
  | .enableStream => pathTouches ++ [.contexts, .faults, .ingress, .dispatcher, .generator, .latches]
  | .disableStream => pathTouches ++ [.contexts, .rings, .live, .latches, .generator, .ingress, .dispatcher]
  | .writeRouteEntry => pathTouches ++ [.routes]
  | .setReference => pathTouches ++ [.reference, .latches]
  | .setArbitration => pathTouches ++ [.arbiter, .faults, .ingress, .dispatcher, .generator, .latches]
  | .snapshotCounters => pathTouches ++ [.snapshot, .live, .contexts]
  | .setCounterMode => pathTouches ++ [.counterMode]
  | .readEvent => pathTouches ++ [.latches]
  | .clearEvents => pathTouches ++ [.latches]
  | .writeEventMask => pathTouches ++ [.latches]
  | .clearFaults => pathTouches ++ [.faults]
  | .generatorStart => pathTouches ++ [.generator]
  | .generatorStop => pathTouches ++ [.generator]
  | .checkerSetup => pathTouches ++ [.checker]
  | .checkerSnapshot => pathTouches ++ [.checker, .checkerBank]
  | _ => pathTouches

/-! ## What a reset leaves of a write -/

/-- R143: `m` is what a reset may leave of frame memory `m0` when it abandons a write of the words `ws` at word address `a`: outside
the memory words of the write every byte and every check bit is kept, and inside them each word is the old one or the one that the
whole write would have left. The bits in error of a memory word are the old ones, or none, or, for a memory word that the write merges,
such that it reads as corrected or uncorrectable (which is free, log entry 14). -/
def LeftByWrite (m0 : FrameMemory) (a : Nat) (ws : List Word) (m : FrameMemory) : Prop :=
  m0.cells.wf = true →
    (∀ byte, byte / 8 < a / 2 ∨ (a + ws.length - 1) / 2 < byte / 8 → m.cells.read byte = m0.cells.read byte) ∧
    (∀ bit, bit / 72 < a / 2 ∨ (a + ws.length - 1) / 2 < bit / 72 → (bit ∈ m.badBits ↔ bit ∈ m0.badBits)) ∧
    (∀ w, m.cells.readWord w = m0.cells.readWord w ∨ m.cells.readWord w = (m0.store a ws).cells.readWord w) ∧
    (∀ k, badBitsOf m.badBits k = badBitsOf m0.badBits k ∨ badBitsOf m.badBits k = [] ∨
      (((a % 2 = 1 ∧ k = a / 2) ∨ ((a + ws.length) % 2 = 1 ∧ k = (a + ws.length - 1) / 2)) ∧ m.verdict k ≠ .good))

/-- R185, R186: `t` is what the management reset may leave of `s`: the port settings, the reply port, the memory size and the level of
TBCLK (log entry 30) are kept, frame memory is kept but for an abandoned write, and every other field has its reset value. -/
def AfterManagementReset (s t : State) : Prop :=
  Keeps [.ingress, .egress, .replyPort, .memory, .lastResetCause, .timebaseRuns, .pending, .upsets, .freeCount] State.reset t ∧
    (∀ q : Fin 4, t.ingress[q] = { s.ingress[q] with fifo := [] }) ∧
    (∀ q : Fin 4, t.egress[q] = { s.egress[q] with pointer := 16, sending := none }) ∧
    t.replyPort = s.replyPort ∧ t.lastResetCause = .management ∧ t.memory.blocks = s.memory.blocks ∧
    (abandonedWrite s = none → t.memory = s.memory) ∧
    (∀ a ws, abandonedWrite s = some (a, ws) → LeftByWrite s.memory a ws t.memory) ∧
    t.pending = s.pending ∧ t.upsets = s.upsets ∧ t.timebaseRuns = s.timebaseRuns

/-! ## Requests -/

/-- R179: the executor is IDLE, RST_N is not low, and a request of good form and the code given heads the queue. -/
def RequestReady (code : BitVec 8) (p : List Word) (rest : List (List Word)) (s : State) : Prop :=
  s.resetHeld = none ∧ s.executor = .idle ∧ s.requestQueue = p :: rest ∧ formGood p = true ∧ requestCode p = code

/-- R181: the OK reply to a request record. -/
def okReply (p : List Word) (results : List Word) : Reply :=
  { tag := requestTag p, code := requestCode p, status := .ok, reason := 0, results := results }

/-- R181: the BAD_ARGUMENT reply to a request record. -/
def badArgumentReply (p : List Word) (reason : Nat) : Reply :=
  { tag := requestTag p, code := requestCode p, status := .badArgument, reason := reason, results := [] }

/-- R181: the REFUSED reply to a request record. -/
def refusedReply (p : List Word) : Reply :=
  { tag := requestTag p, code := requestCode p, status := .refused, reason := 0, results := [] }

/-- The number that operand `i` of a request record gives. -/
def argument (p : List Word) (i : Nat) : Nat := operand (requestOperands p) i

/-- A media kind: START, BODY, END or SINGLE (R9). -/
def BurstKind.isMedia (k : BurstKind) : Bool :=
  match k with
  | .startBurst => true
  | .bodyBurst => true
  | .endBurst => true
  | .singleBurst => true
  | .abortBurst => false
  | .requestBurst => false
  | .replyBurst => false

/-- R8: the free dispatcher's next burst: the head of port `p`. -/
def DispatchesNext (s : State) (p : Fin 4) (b : Burst) : Prop :=
  s.resetHeld = none ∧ s.dispatcher.waiting = none ∧ nextPort s = some p ∧ headBurst s p = some b

/-! ## Laws of the part -/

/-- The laws of the queues: R7, R132, R177, R182, R112 (with the low mark of R141 that keeps it) and R137. -/
def QueuesBounded (s : State) : Prop :=
  (∀ p : Fin 4, s.ingress[p].fifo.length ≤ 8) ∧ s.writeQueue.length ≤ 16 ∧ s.requestQueue.length ≤ 4 ∧
    s.replyQueue.length ≤ 4 ∧ (∀ k : Fin 16, fifoFill s.emissions[k] ≤ 8) ∧ s.arbiter.lowMark ≤ 7 ∧
    s.arbiter.refreshOwed ≤ 8

/-- Frame memory keeps its canonical form: cells rising and none listed that reads as unlisted, bits in error rising. -/
def MemoryCanonical (s : State) : Prop :=
  s.memory.cells.wf = true ∧ s.memory.badBits.Pairwise (· < ·)

/-- The class of a fault kind: minor for CORRECTED alone (R166). -/
def FaultKind.isMinor (k : FaultKind) : Bool :=
  match k with
  | .corrected => true
  | .uncorrectable => false
  | .tableParity => false
  | .refreshOverdue => false

/-- R167: the laws of the fault record. -/
def FaultRecordLawful (f : FaultRecord) : Prop :=
  ¬(f.minorHeld = true ∧ f.majorHeld = true) ∧ (f.double = true → f.majorHeld = true) ∧
    (f.mode = .safe ↔ f.double = true) ∧
    (match f.captured with
     | none => f.minorHeld = false ∧ f.majorHeld = false
     | some c => f.minorHeld = c.kind.isMinor ∧ f.majorHeld = !c.kind.isMinor)

/-- R58: each buffer's hold count is the number of slots whose current buffer it is. -/
def HoldsCounted (s : State) : Prop :=
  ∀ b : BufferName,
    (bufferOf s b).holdCount = ((indexes 16).filter fun k => s.slots[k].current.map CurrentFrame.buffer == some b).length

/-- R62: a stream has at most one buffer in FILLING. -/
def OneFilling (s : State) : Prop :=
  ∀ (n : Fin 32) (i j : Fin 8),
    (bufferOf s ⟨n, i⟩).state = .filling → (bufferOf s ⟨n, j⟩).state = .filling → i = j

/-- R53: a stream's writes outstanding is the number of its entries in the write queue. -/
def WritesCounted (s : State) : Prop :=
  ∀ n : Fin 32, s.contexts[n].writesOutstanding = (s.writeQueue.filter fun e => e.stream == n).length

/-- R21, R22: the reference state is FREE exactly in FREE mode, where the edge counter is absent and both runs are 0. -/
def ReferenceLawful (r : Reference) : Prop :=
  (r.mode = .free ↔ r.state = .free) ∧
    (r.mode = .free → r.edgeCounter = none ∧ r.missedRun = 0 ∧ r.goodRun = 0)

/-- An invariant that every step keeps, whatever command it takes and whatever the part does by itself. -/
def KeptByStep (inv : State → Prop) : Prop :=
  ∀ s t : State, inv s → step s = .next t → inv t

end Sys2Proof.Machine
end

