-- ==== Sys2Proof/Certificates/Slice0/Obligations.lean ====
section
/-! DEFINITION. The statements for the provers, in the order of OBLIGATIONS.json. -/

open Sys2Proof Sys2Proof.Machine

/-! ## The queue of commands and the step -/

/-- The command at the front of the queue is carried out on the state with the rest of the queue. -/
def Obligations.StepRunsFrontCommand : Prop :=
  ∀ (c : Instr) (rest : List Instr) (s : State), s.pending = c :: rest → step s = exec c { s with pending := rest }

/-- With no command waiting: nothing while RST_N is low, else the part's first due event, else one timebase unit, in which c, e, the
interval counters and the refresh timer count (R22, R26, R42, R137). R19: while TBCLK stands none of them counts; the tape of what
comes from outside says when it stops and runs, and which stream entry, route entry or memory bit is disturbed (R166, R138). The
events that are due, in the order taken; at c = P of FREE mode a step is FREE_PERIOD_EXPIRY once no earlier event is due (R22), and
a waiting request is taken once nothing is due by time (R179). The form of this step, the order of the events, the marks of what is
due and the tape are the model's choice (log entries 3, 5, 13 and 30). -/
def Obligations.EmptyQueueStep : Prop :=
  (∀ s : State, s.pending = [] →
     (s.resetHeld.isSome = true → step s = .next s) ∧
     (∀ c, s.resetHeld = none → dueEvent s = some c → step s = exec c s) ∧
     (s.resetHeld = none → dueEvent s = none → ∃ t, step s = .next t ∧
       Keeps [.reference, .contexts, .arbiter, .entries, .routes, .memory, .timebaseRuns, .upsets] s t ∧
       (s.timebaseRuns = true →
         t.reference = { s.reference with
           periodCounter := s.reference.periodCounter + 1
           edgeCounter := s.reference.edgeCounter.map fun e =>
             min (e + 1) (s.reference.params.period + s.reference.params.tolerance + 1) } ∧
         t.arbiter = { s.arbiter with refreshTimer := s.arbiter.refreshTimer + 1 } ∧
         (∀ n : Fin 32, t.contexts[n] =
           if inService s.contexts[n].state = true ∧ s.contexts[n].measuring = true ∧
               s.contexts[n].intervalCounter < 0xFFFFFF then
             { s.contexts[n] with
               intervalCounter := s.contexts[n].intervalCounter + 1
               overflowDue := s.contexts[n].overflowDue || s.contexts[n].intervalCounter + 1 == 0xFFFFFF }
           else s.contexts[n])) ∧
       (s.timebaseRuns = false → t.reference = s.reference ∧ t.arbiter = s.arbiter ∧ t.contexts = s.contexts) ∧
       t.upsets = s.upsets.tail ∧
       (s.upsets = [] ∨ s.upsets.head? = some .quiet → Keeps [.reference, .contexts, .arbiter, .upsets] s t) ∧
       (∀ n stored, s.upsets.head? = some (.streamEntry n stored) →
         t.entries = s.entries.set n { fields := stored, parityGood := false } ∧
         Keeps [.reference, .contexts, .arbiter, .upsets, .entries] s t) ∧
       (∀ k stored, s.upsets.head? = some (.activeRoute k stored) →
         t.routes = s.routes.set k { s.routes[k] with active := { fields := stored, parityGood := false } } ∧
         Keeps [.reference, .contexts, .arbiter, .upsets, .routes] s t) ∧
       (∀ k stored, s.upsets.head? = some (.pendingRoute k stored) →
         t.routes = s.routes.set k
           { s.routes[k] with pending := s.routes[k].pending.map fun _ => { fields := stored, parityGood := false } } ∧
         Keeps [.reference, .contexts, .arbiter, .upsets, .routes] s t) ∧
       (∀ w bit, s.upsets.head? = some (.memoryBit w bit) →
         t.memory = { s.memory with badBits := toggleBadBit s.memory.badBits (72 * w + bit.val) } ∧
         (s.memory.badBits.Pairwise (· < ·) →
           ∀ b, b ∈ t.memory.badBits ↔ if b = 72 * w + bit.val then b ∉ s.memory.badBits else b ∈ s.memory.badBits) ∧
         Keeps [.reference, .contexts, .arbiter, .upsets, .memory] s t) ∧
       (s.upsets.head? = some .clockStops →
         t.timebaseRuns = false ∧ Keeps [.reference, .contexts, .arbiter, .upsets, .timebaseRuns] s t) ∧
       (s.upsets.head? = some .clockRuns →
         t.timebaseRuns = true ∧ Keeps [.reference, .contexts, .arbiter, .upsets, .timebaseRuns] s t))) ∧
  (∀ s : State,
     (dueByTime s =
       ((indexes 32).filter fun n => decide (s.contexts[n].state = .locked ∧ s.contexts[n].activityDue = true)).map
           Instr.activityJudgement ++
         ((indexes 16).filter fun k => s.slots[k].holdExpiryDue).map Instr.holdExpired ++
         (if s.generator.state = .running ∧ s.generator.stream.isSome = true ∧ s.generator.frameStartDue = true then
           [.generatorFrameStart] else []) ++
         ((indexes 32).filter fun n => s.contexts[n].overflowDue).map Instr.intervalOverflow ++
         (if s.arbiter.refreshInterval ≤ s.arbiter.refreshTimer then [.refreshTimerExpiry] else []) ++
         (if s.timebaseRuns = true ∧ s.reference.mode = .free ∧ s.reference.params.period ≤ s.reference.periodCounter then
           [.freePeriodExpiry []] else []) ++
         (if s.timebaseRuns = true ∧ (s.reference.state = .tracking ∨ s.reference.state = .coasting) ∧
             s.reference.params.period + s.reference.params.tolerance ≤ s.reference.periodCounter then
           [.windowClose []] else []) ++
         (if s.timebaseRuns = true ∧ s.reference.state = .searching ∧
             s.reference.params.period ≤ s.reference.periodCounter then
           [.searchingFlywheel []] else [])) ∧
     (dueByQueues s =
       (match s.executor with
        | .waitReplySpace _ => if s.replyQueue.length < 4 then [.replySpaceFreed] else []
        | _ => []) ++
         (if s.executor = .idle then
           (s.requestQueue.take 1).map fun p =>
             if formGood p = true then (rowOfCode (requestCode p)).getD .badRequest else .badRequest
          else []) ++
         (if s.dispatcher.waiting.isSome = true ∧ s.writeQueue.length < 16 then [.waitingBurstAccepted] else []) ++
         (if s.generator.waiting.isSome = true ∧ s.generator.stream.isSome = true ∧ s.writeQueue.length < 16 then
           [.generatorBurstTaken] else []) ++
         (if s.dispatcher.waiting = none ∧ ∃ p : Fin 4, s.ingress[p].fifo ≠ [] then [.dispatchBurst] else []) ++
         (if s.arbiter.access = none ∧ (chooseClaim s).isSome = true then [.memoryGrant] else []) ++
         ((indexes 4).filter fun p => decide (s.egress[p].sending = none ∧ (nextParticipant s p).isSome = true)).map
           Instr.egressGrant) ∧
     (dueEvent s = (dueByTime s ++ dueByQueues s).head?) ∧
     (s.pending = [] → s.resetHeld = none →
       (s.timebaseRuns = true → s.reference.mode = .free → s.reference.params.period ≤ s.reference.periodCounter →
         (∀ n : Fin 32, ¬(s.contexts[n].state = .locked ∧ s.contexts[n].activityDue = true) ∧
           s.contexts[n].overflowDue = false) →
         (∀ k : Fin 16, s.slots[k].holdExpiryDue = false) →
         s.generator.frameStartDue = false → s.arbiter.refreshTimer < s.arbiter.refreshInterval →
         step s = exec (.freePeriodExpiry []) s) ∧
       (∀ p rest, dueByTime s = [] → s.executor = .idle → s.requestQueue = p :: rest →
         step s = exec (if formGood p = true then (rowOfCode (requestCode p)).getD .badRequest else .badRequest) s)))

/-- Every command answers a next state, except a memory completion whose access would touch a block that frame memory does not have; no
command is refused. That such an access stops by a fault is the model's choice (log entry 22). -/
def Obligations.CommandsAlwaysAnswer : Prop :=
  ∀ (c : Instr) (s : State),
    (∃ t, exec c s = .next t) ∨
      (c ∈ [Instr.writeCompletion, .slotReadCompletion, .managementAccessCompletion] ∧ exec c s = .fault .noSuchBlock)

/-- The frame of every command: a field that is not among those the rules let the command touch is unchanged. That a field which no rule
names for a command keeps its value is the model's inference (log entry 24, DEDUCED). The queue of commands and the tape of upsets
are in no list, so no command changes them. -/
def Obligations.CommandFrames : Prop := ∀ (c : Instr) (s t : State), exec c s = .next t → Keeps (touches c) s t

/-! ## Resets -/

/-- State.reset holds the reset values that the tables of the spec give, field by field, with TBCLK running (R186). The marks
overflowDue, activityDue, holdExpiryDue and frameStartDue are the model's own, clear by its choice (log entry 5). What frame memory
holds and its size are no reset values of the spec's and stand in log entries 9 and 10. -/
def Obligations.ResetValues : Prop :=
  (State.reset.reference =
    { mode := .free, state := .free, params := { period := 1000000, tolerance := 1000, lossCount := 3, regainCount := 3 },
      pendingParams := none, periodCounter := 0, edgeCounter := none, missedRun := 0, goodRun := 0, tickNumber := 0 }) ∧
  (∀ n : Fin 32, State.reset.entries[n] =
    { fields :=
        { source := .ingress 0, regionBase := 0, bufferSize := 1, ringLength := 2, expectedBursts := 0, wordOrder := .normal,
          windowMin := 0, windowMax := 0, lockCount := 1, cadenceLimit := 1, activityWindow := 1, activityThreshold := 1,
          gapCheck := false },
      parityGood := true }) ∧
  (∀ n : Fin 32, State.reset.contexts[n] =
    { state := .off, intervalCounter := 0, measuring := false, lastInterval := none, intervalMin := none, intervalMax := none,
      rateClass := none, lockProgress := 0, cadenceRun := 0, windowTicks := 0, windowFrames := 0, lastFrameNumber := none,
      sequenceCounter := 0, fillTagCounter := 0, writesOutstanding := 0, refusing := false, overflowDue := false,
      activityDue := false }) ∧
  (∀ (n : Fin 32) (i : Fin 8), bufferOf State.reset ⟨n, i⟩ =
    { state := .empty, fillTag := 0, sourceFrame := none, nextIndex := none, lastWords := none, burstCount := none,
      sequence := none, stamp := none, holdCount := 0, mediaError := false }) ∧
  (∀ k : Fin 16, State.reset.routes[k].pending = none ∧ State.reset.routes[k].active.parityGood = true ∧
    State.reset.routes[k].active.fields =
      { enabled := false, stream := 0, delay := 0, holdLimit := 0, substKind := .fill, fillWord := 0, fillLength := 1,
        egressPort := 0, outputTag := 0 }) ∧
  (∀ k : Fin 16, State.reset.slots[k] =
    { state := .off, current := none, holdTimer := 0, outputFrame := 0, cause := none, holdExpiryDue := false }) ∧
  (∀ k : Fin 16, State.reset.emissions[k].record =
      { status := .none, sourceKind := none, buffer := none, fillTag := none, baseBlock := none, lastWords := none,
        fillWord := none, burstsTotal := 0, blocksRequested := 0, burstsSent := 0, outputFrame := 0, egressPort := 0,
        outputTag := 0, isRepeat := false } ∧
    State.reset.emissions[k].fifo = [] ∧ State.reset.emissions[k].readInFlight = none ∧
    ∀ p : Fin 4, State.reset.emissions[k].aborts[p] = none) ∧
  (State.reset.arbiter =
    { order := .egressIngressMgmt, lowMark := 4, urgentMark := 1, refreshInterval := 780, refreshTimer := 0, refreshOwed := 0,
      egressPointer := 15, access := none }) ∧
  (State.reset.counterMode = .wrap ∧
    (∀ n : Fin 32, State.reset.live.streams[n] =
      { accepted := 0, damaged := 0, dropped := 0, refused := 0, orphans := 0, cadenceErrors := 0, gaps := 0 }) ∧
    (∀ k : Fin 16, State.reset.live.slots[k] = { emitted := 0, repeats := 0, skips := 0, substitutes := 0, late := 0 }) ∧
    (∀ p : Fin 4, State.reset.live.ingress[p] =
      { goodBursts := 0, checkErrors := 0, framingErrors := 0, headerErrors := 0, overruns := 0, misroutes := 0 }) ∧
    (∀ p : Fin 4, State.reset.live.egress[p] = { sentBursts := 0, discardedBursts := 0 }) ∧
    State.reset.live.reference = { strayEdges := 0, flywheelTicks := 0 } ∧
    State.reset.live.memory = { corrected := 0, uncorrectable := 0 }) ∧
  (State.reset.snapshot.counters = State.reset.live ∧
    (∀ n : Fin 32, State.reset.snapshot.extremes[n] = { minimum := none, maximum := none }) ∧
    State.reset.snapshot.tick = none ∧ State.reset.snapshot.cleared = false) ∧
  (State.reset.generator =
    { state := .stopped, stream := none, pattern := .count, fillWord := 0, frameLength := 1, frameCount := 0, spacing := 1,
      ticksSinceStart := none, inProgress := false, burstsTaken := 0, framesDone := 0, nextFrameNumber := 0,
      stopRequested := false, countValue := 0, pnRegister := BitVec.allOnes 23, waiting := none, frameStartDue := false }) ∧
  (State.reset.checker =
    { state := .idle, tap := .none, tapIndex := 0, pattern := .count, fillWord := 0, restartAtFrame := false,
      expectation := none, matchRun := 0, mismatchRun := 0, words := 0, errors := 0, frames := 0 }) ∧
  (State.reset.checkerBank = { words := 0, errors := 0, frames := 0, tick := none, cleared := false }) ∧
  (State.reset.faults = { minorHeld := false, majorHeld := false, double := false, captured := none, mode := .normal }) ∧
  (∀ i : Fin 16, State.reset.latches[i] = { pending := false, mask := false, source := 0, cause := 0 }) ∧
  (∀ p : Fin 4, State.reset.ingress[p] =
      { enabled := true, permission := decide (p = 0), bitOrder := .lsbFirst, fifo := [] } ∧
    State.reset.egress[p] = { enabled := true, bitOrder := .lsbFirst, pointer := 16, sending := none }) ∧
  (State.reset.replyPort = 0 ∧ State.reset.executor = .idle ∧ State.reset.requestQueue = [] ∧ State.reset.replyQueue = [] ∧
    State.reset.writeQueue = [] ∧ State.reset.dispatcher = { pointer := 0, waiting := none } ∧
    State.reset.lastResetCause = .powerOn ∧ State.reset.resetHeld = none ∧ State.reset.timebaseRuns = true)

/-- A power-on reset with a well-formed image gives every field its reset value, the memory size that MEMSZ chooses and the content
given; RST_N held low prolongs it. RST_N low puts every field at its reset value and holds it there, and every command but the three
of the resets then changes nothing; RST_N high ends the hold and samples MEMSZ; frame memory is kept, but for a write that the reset
abandons (that the cells are kept as they are whatever MEMSZ, so that a block it adds reads 0 where nothing is listed, is the
model's choice, log entry 33): then every byte and check bit outside the write's memory words is kept, and each word inside is the
old one or the written one, with its old bits in error, none, or, where it is merged, such that it reads as corrected or
uncorrectable. R143 says only that such a write may leave its block partly written; the free values inside, and the cause and clock
over a prolonged hold, are the model's choice (log entries 14, 21 and 30). -/
def Obligations.ResetsComplete : Prop :=
  (∀ (memsz : BitVec 2) (cells : List Host.Cell) (badBits : List Nat) (s : State),
     (Instr.powerOnReset memsz cells badBits).wellFormed = true →
     ∃ n, exec (.powerOnReset memsz cells badBits) s = .next
       { State.reset with
         memory :=
           { cells := cells, badBits := badBits,
             blocks := if memsz = 0#2 then 65536 else if memsz = 1#2 then 262144 else 1048576 }
         resetHeld := s.resetHeld.map fun _ => .powerOn
         pending := s.pending, upsets := s.upsets, freeCount := n }) ∧
  ((∀ s : State, s.resetHeld = none → ∃ m n,
     exec .pinResetBegin s = .next
       { State.reset with
         memory := m, lastResetCause := .pin, resetHeld := some .pin, timebaseRuns := s.timebaseRuns
         pending := s.pending, upsets := s.upsets, freeCount := n } ∧
     m.blocks = s.memory.blocks ∧ (abandonedWrite s = none → m = s.memory) ∧
     (∀ a ws, abandonedWrite s = some (a, ws) → LeftByWrite s.memory a ws m)) ∧
   (∀ s : State, s.resetHeld.isSome = true → exec .pinResetBegin s = .next s) ∧
   (∀ (memsz : BitVec 2) (s : State), ∃ m n,
     exec (.pinReset memsz) s = .next
       { State.reset with
         memory := m, lastResetCause := s.resetHeld.getD .pin, timebaseRuns := s.timebaseRuns
         pending := s.pending, upsets := s.upsets, freeCount := n } ∧
     m.blocks = (if memsz = 0#2 then 65536 else if memsz = 1#2 then 262144 else 1048576) ∧
     (abandonedWrite s = none → m.cells = s.memory.cells ∧ m.badBits = s.memory.badBits) ∧
     (∀ a ws, abandonedWrite s = some (a, ws) → LeftByWrite s.memory a ws m)) ∧
   (∀ s : State,
     (∀ e rest, s.arbiter.access = some .ingress → s.writeQueue = e :: rest →
       abandonedWrite s = some (64 * e.target, e.payload)) ∧
     (∀ j ws, s.arbiter.access = some .mgmt → s.executor = .waitMemory j → j.data = some ws →
       abandonedWrite s = some (j.address, ws)) ∧
     (∀ j, s.arbiter.access = some .mgmt → s.executor = .waitMemory j → j.data = none → abandonedWrite s = none) ∧
     (s.arbiter.access = none ∨ s.arbiter.access = some .refresh ∨ (∃ k, s.arbiter.access = some (.egress k)) →
       abandonedWrite s = none))) ∧
  (∀ (c : Instr) (s : State), s.resetHeld.isSome = true →
     (∀ memsz cells bad, c ≠ .powerOnReset memsz cells bad) → (∀ memsz, c ≠ .pinReset memsz) → exec c s = .next s)

/-- R185, R186, R17: the completion of ResetPart's reply brings the management reset, whether it was sent or is discarded at its grant
on a disabled reply port: port settings, reply port and memory size are kept, every other field takes its reset value. What a write
abandoned by the reset leaves inside its memory words (log entry 14) and that TBCLK keeps its level (log entry 30) are the model's
choice; R143: where the check bits of a word it merges are left disagreeing, the word reads as corrected or uncorrectable. -/
def Obligations.ManagementResetAtReply : Prop :=
  (∀ (p : Fin 4) (s : State) (sending : Sending) (r : Reply) (rest : List Reply),
    s.resetHeld = none → s.egress[p].sending = some sending → sending.participant = .reply →
    s.replyQueue = r :: rest → r.isResetPart = true →
    ∃ t, exec (.egressBurstCompletion p) s = .next t ∧ AfterManagementReset s t) ∧
  (∀ (p : Fin 4) (s : State) (r : Reply) (rest : List Reply),
    s.resetHeld = none → s.egress[p].sending = none → s.egress[p].enabled = false → nextParticipant s p = some 16 →
    s.replyQueue = r :: rest → r.isResetPart = true →
    ∃ t, exec (.egressGrant p) s = .next t ∧ AfterManagementReset s t)

/-! ## Counters, events and faults -/

/-- R146: an increment by n from v with maximum m, in each counter mode. -/
def Obligations.IncrementFollowsMode : Prop :=
  ∀ (w : Nat) (v : BitVec w) (n : Nat),
    (bump .wrap v n).toNat = (v.toNat + n) % 2 ^ w ∧
    (v.toNat + n ≤ 2 ^ w - 1 → (bump .saturate v n).toNat = v.toNat + n) ∧
    (2 ^ w - 1 < v.toNat + n → (bump .saturate v n).toNat = 2 ^ w - 1)

/-- An occurrence sets the pending flag of its own latch and overwrites the detail, whatever the mask, and touches nothing else; the
sixteen latches have the numbers of the table; ALERT_N is asserted while a latch is both pending and unmasked. -/
def Obligations.EventOccurrence : Prop :=
  (∀ (e : EventKind) (source cause : Nat) (s : State),
    Keeps [.latches] s (raise e source cause s) ∧
    (raise e source cause s).latches[latchNumber e] =
      { pending := true, mask := s.latches[latchNumber e].mask, source := BitVec.ofNat 5 source, cause := BitVec.ofNat 4 cause } ∧
    (∀ i : Fin 16, i ≠ latchNumber e → (raise e source cause s).latches[i] = s.latches[i])) ∧
  (latchNumber .faultDouble = 15 ∧ latchNumber .faultMajor = 14 ∧ latchNumber .faultMinor = 13 ∧ latchNumber .refState = 12 ∧
    latchNumber .streamLost = 11 ∧ latchNumber .streamLocked = 10 ∧ latchNumber .slotSubstitute = 9 ∧
    latchNumber .slotLate = 8 ∧ latchNumber .ringStarved = 7 ∧ latchNumber .ingressOverrun = 6 ∧
    latchNumber .burstError = 5 ∧ latchNumber .frameDamaged = 4 ∧ latchNumber .misroute = 3 ∧
    latchNumber .mgmtDiscard = 2 ∧ latchNumber .test = 1 ∧ latchNumber .intervalOverflow = 0) ∧
  (∀ s : State, alertAsserted s = true ↔ ∃ i : Fin 16, s.latches[i].pending = true ∧ s.latches[i].mask = true)

/-- How the fault record takes a minor and a major fault (R168, R169) and what the entry to SAFE does (R170): a burst that the
dispatcher waits with is discarded uncounted, the port pointer moved on (R11), and a RUNNING generator is aborted with TEST of its
stream (R160); every other latch and field stays. The mark frameStartDue that the abort clears is the model's own (log entry 5). -/
def Obligations.FaultsReachTheRecord : Prop :=
  ∀ (kind : FaultKind) (source : FaultSource) (i : Nat) (block : Option Nat) (s : State),
    let fault : CapturedFault :=
      { kind := kind, source := source, index := i, block := block, tick := s.reference.tickNumber }
    (s.faults.minorHeld = false → s.faults.majorHeld = false → s.faults.double = false →
      minorFault kind source i block s =
        raise .faultMinor i kind.code { s with faults := { s.faults with minorHeld := true, captured := some fault } }) ∧
    (s.faults.minorHeld = true ∨ s.faults.majorHeld = true ∨ s.faults.double = true →
      minorFault kind source i block s = s) ∧
    (s.faults.majorHeld = false → s.faults.double = false →
      majorFault kind source i block s =
        raise .faultMajor i kind.code
          { s with faults := { s.faults with minorHeld := false, majorHeld := true, captured := some fault } }) ∧
    (s.faults.majorHeld = true → s.faults.double = false →
      (majorFault kind source i block s).faults = { s.faults with double := true, mode := .safe } ∧
      (s.dispatcher.waiting = none →
        (majorFault kind source i block s).ingress = s.ingress ∧ (majorFault kind source i block s).dispatcher = s.dispatcher) ∧
      (∀ p : Fin 4, s.dispatcher.waiting = some p →
        (majorFault kind source i block s).ingress =
          s.ingress.set p { s.ingress[p] with fifo := s.ingress[p].fifo.tail } ∧
        (majorFault kind source i block s).dispatcher = { pointer := p + 1, waiting := none }) ∧
      (s.generator.state = .running →
        (majorFault kind source i block s).generator =
          { s.generator with
            state := .stopped, inProgress := false, stopRequested := false, waiting := none, frameStartDue := false }) ∧
      (s.generator.state ≠ .running → (majorFault kind source i block s).generator = s.generator) ∧
      (∀ n : Fin 32, s.generator.state = .running → s.generator.stream = some n →
        (majorFault kind source i block s).latches[(1 : Fin 16)] =
          { s.latches[(1 : Fin 16)] with pending := true, source := BitVec.ofNat 5 n.val, cause := 1#4 }) ∧
      (s.generator.state ≠ .running ∨ s.generator.stream = none →
        (majorFault kind source i block s).latches[(1 : Fin 16)] = s.latches[(1 : Fin 16)]) ∧
      (majorFault kind source i block s).latches[(15 : Fin 16)] =
        { s.latches[(15 : Fin 16)] with
          pending := true, source := BitVec.ofNat 5 i, cause := BitVec.ofNat 4 kind.code } ∧
      (∀ l : Fin 16, l ≠ 15 → l ≠ 1 → (majorFault kind source i block s).latches[l] = s.latches[l]) ∧
      Keeps [.faults, .ingress, .dispatcher, .generator, .latches] s (majorFault kind source i block s)) ∧
    (s.faults.double = true → majorFault kind source i block s = s)

/-! ## Ingress (01) -/

/-- R2, R3, R5, R6, R187: the kinds that the header's codes name; the check word (the polynomial's step, both orders of feeding and
placing); the three checks in their fixed order, over the words between the markers; the header errors; and the burst that a
reception with good checks gives, every header field where the format puts it, the flags clear. -/
def Obligations.BurstChecksInOrder : Prop :=
  ((codeOfKind .startBurst = 1#4 ∧ codeOfKind .bodyBurst = 2#4 ∧ codeOfKind .endBurst = 3#4 ∧ codeOfKind .singleBurst = 4#4 ∧
     codeOfKind .abortBurst = 5#4 ∧ codeOfKind .requestBurst = 6#4 ∧ codeOfKind .replyBurst = 8#4) ∧
   (∀ (c : BitVec 4) (k : BurstKind), kindOfCode c = some k ↔ c = codeOfKind k)) ∧
  ((∀ (shift : Word) (bit : Bool),
     crcBit shift bit = (if (bit ^^ shift.getLsbD 31) = true then (shift <<< 1) ^^^ 0x04C11DB7#32 else shift <<< 1)) ∧
   (∀ w : Word, fedBits .lsbFirst w = (List.range 32).map (fun i => w.getLsbD i) ∧
     fedBits .msbFirst w = (List.range 32).map (fun i => w.getLsbD (31 - i))) ∧
   (∀ (o : BitOrder) (ws : List Word),
     crcShift o ws = (ws.flatMap (fedBits o)).foldl crcBit 0xFFFFFFFF#32) ∧
   (∀ ws : List Word, checkWordOf .msbFirst ws = ~~~ (crcShift .msbFirst ws)) ∧
   (∀ (ws : List Word) (i : Nat), i < 32 →
     (checkWordOf .lsbFirst ws).getLsbD i = (~~~ (crcShift .lsbFirst ws)).getLsbD (31 - i))) ∧
  (∀ (o : BitOrder) (ignored : Bool),
     (∀ words, judgeReception o ⟨words, .startMarker, ignored⟩ = .framingError) ∧
     (judgeReception o ⟨[], .endMarker, ignored⟩ = .framingError) ∧
     (∀ (w0 : Word) (rest : List Word), rest.length ≠ (w0.extractLsb' 12 7).toNat + 2 →
       judgeReception o ⟨w0 :: rest, .endMarker, ignored⟩ = .framingError) ∧
     (∀ (w0 w1 : Word) (payload : List Word) (check : Word), payload.length = (w0.extractLsb' 12 7).toNat →
       check ≠ checkWordOf o (w0 :: w1 :: payload) →
         judgeReception o ⟨w0 :: w1 :: (payload ++ [check]), .endMarker, ignored⟩ = .checkError) ∧
     (∀ (w0 w1 : Word) (payload : List Word), payload.length = (w0.extractLsb' 12 7).toNat →
       (headerBad w0 w1 = true →
         judgeReception o ⟨w0 :: w1 :: (payload ++ [checkWordOf o (w0 :: w1 :: payload)]), .endMarker, ignored⟩ =
           .headerError) ∧
       (headerBad w0 w1 = false → ∃ kind, kindOfCode (w0.extractLsb' 22 4) = some kind ∧
         judgeReception o ⟨w0 :: w1 :: (payload ++ [checkWordOf o (w0 :: w1 :: payload)]), .endMarker, ignored⟩ =
           .good
             { tag := w0.extractLsb' 26 6, kind := kind, repeatFlag := false, substFlag := false, mediaErrFlag := false,
               index := (w0.extractLsb' 0 12).toNat, frameNumber := w1.extractLsb' 16 16, payload := payload })) ∧
     (∀ w0 w1 : Word, headerBad w0 w1 = true ↔
       kindOfCode (w0.extractLsb' 22 4) = none ∨ kindOfCode (w0.extractLsb' 22 4) = some .abortBurst ∨
       kindOfCode (w0.extractLsb' 22 4) = some .replyBurst ∨
       (∃ k : BurstKind, k.isMedia = true ∧ kindOfCode (w0.extractLsb' 22 4) = some k ∧ 31 < (w0.extractLsb' 26 6).toNat) ∨
       (kindOfCode (w0.extractLsb' 22 4) = some .requestBurst ∧ (w0.extractLsb' 26 6).toNat ≠ 63) ∨
       (w0.extractLsb' 12 7).toNat = 0 ∨ 64 < (w0.extractLsb' 12 7).toNat ∨ w1.extractLsb' 0 16 ≠ 0#16))

/-- R5, R7, R13, R173: what the judgement of a complete burst leaves, in each outcome; a burst to be ignored, or at a port that is off,
changes nothing. -/
def Obligations.IngressBurstOutcome : Prop :=
  ∀ (p : Fin 4) (r : Reception) (s : State), s.resetHeld = none →
    (s.ingress[p].enabled = false ∨ r.ignored = true → exec (.ingressBurstJudged p r) s = .next s) ∧
    (s.ingress[p].enabled = true → r.ignored = false →
      (judgeReception s.ingress[p].bitOrder r = .checkError →
        exec (.ingressBurstJudged p r) s = .next (raise .burstError p.val 0 (countIngress p .checkErrors s))) ∧
      (judgeReception s.ingress[p].bitOrder r = .framingError →
        exec (.ingressBurstJudged p r) s = .next (raise .burstError p.val 1 (countIngress p .framingErrors s))) ∧
      (judgeReception s.ingress[p].bitOrder r = .headerError →
        exec (.ingressBurstJudged p r) s = .next (raise .burstError p.val 2 (countIngress p .headerErrors s))) ∧
      (∀ b, judgeReception s.ingress[p].bitOrder r = .good b →
        (s.ingress[p].fifo.length < 8 →
          exec (.ingressBurstJudged p r) s = .next
            (countIngress p .goodBursts
              { s with ingress := s.ingress.set p { s.ingress[p] with fifo := s.ingress[p].fifo ++ [b] } })) ∧
        (8 ≤ s.ingress[p].fifo.length →
          exec (.ingressBurstJudged p r) s = .next (raise .ingressOverrun p.val 0 (countIngress p .overruns s)))))

/-- R8: the port served next has the first non-empty FIFO, searching from the pointer and round; with every FIFO empty no burst is
taken, and a waiting dispatcher takes none (that the command then changes nothing is the model's choice, log entry 2); serving a
burst removes it and moves the pointer to the port after. R10, R177: a request burst that the dispatcher takes is queued, or
discarded for want of permission or of a place. -/
def Obligations.DispatcherTakesInTurn : Prop :=
  (∀ s : State,
     (∀ p : Fin 4, nextPort s = some p ↔
       s.ingress[p].fifo ≠ [] ∧
         ∀ q : Fin 4, (q - s.dispatcher.pointer).val < (p - s.dispatcher.pointer).val → s.ingress[q].fifo = []) ∧
     ((∀ p : Fin 4, s.ingress[p].fifo = []) → exec .dispatchBurst s = .next s) ∧
     (s.dispatcher.waiting.isSome = true → exec .dispatchBurst s = .next s) ∧
     (∀ p : Fin 4, (finishBurst p s).ingress[p] = { s.ingress[p] with fifo := s.ingress[p].fifo.tail } ∧
       (∀ q : Fin 4, q ≠ p → (finishBurst p s).ingress[q] = s.ingress[q]) ∧
       (finishBurst p s).dispatcher = { pointer := p + 1, waiting := none } ∧
       Keeps [.ingress, .dispatcher] s (finishBurst p s))) ∧
  (∀ (p : Fin 4) (b : Burst) (s : State), DispatchesNext s p b → b.kind = .requestBurst →
     (s.ingress[p].permission = false → exec .dispatchBurst s = .next (raise .mgmtDiscard p.val 0 (finishBurst p s))) ∧
     (s.ingress[p].permission = true → s.requestQueue.length < 4 →
       exec .dispatchBurst s = .next { finishBurst p s with requestQueue := s.requestQueue ++ [b.payload] }) ∧
     (s.ingress[p].permission = true → 4 ≤ s.requestQueue.length →
       exec .dispatchBurst s = .next (raise .mgmtDiscard p.val 1 (finishBurst p s))))

/-- R9, R11, R37: a stream entry in use that fails its parity check reports TABLE_PARITY of the stream table and the stream, and the
stream enters CLOSING; the fate of a media burst that the dispatcher takes, case by case in the order of the rule; a waiting
dispatcher decides its burst again once the write queue has space, and until then changes nothing (the model's choice, log entry 2). -/
def Obligations.MediaBurstFate : Prop :=
  (∀ (n : Fin 32) (s : State),
     entryParityFailure n s = enterClosing n (majorFault .tableParity .streamTable n.val none s)) ∧
  (∀ (p : Fin 4) (b : Burst) (n : Fin 32) (s : State), DispatchesNext s p b → b.kind.isMedia = true → b.tag.toNat = n.val →
     (s.faults.mode = .safe → exec .dispatchBurst s = .next (finishBurst p s)) ∧
     (s.faults.mode = .normal → inService s.contexts[n].state = true → s.entries[n].parityGood = false →
       exec .dispatchBurst s = .next (misroute p (finishBurst p (entryParityFailure n s)))) ∧
     (s.faults.mode = .normal → inService s.contexts[n].state = false →
       exec .dispatchBurst s = .next (misroute p (finishBurst p s))) ∧
     (s.faults.mode = .normal → inService s.contexts[n].state = true → s.entries[n].parityGood = true →
       s.entries[n].fields.source ≠ .ingress p → exec .dispatchBurst s = .next (misroute p (finishBurst p s))) ∧
     (s.faults.mode = .normal → inService s.contexts[n].state = true → s.entries[n].parityGood = true →
       s.entries[n].fields.source = .ingress p →
       (s.writeQueue.length < 16 → exec .dispatchBurst s = .next (acceptBurst n b (finishBurst p s))) ∧
       (16 ≤ s.writeQueue.length →
         exec .dispatchBurst s = .next { s with dispatcher := { s.dispatcher with waiting := some p } })) ∧
     (∀ t : State, (misroute p t) = raise .misroute p.val 0 (countIngress p .misroutes t))) ∧
  (∀ (p : Fin 4) (b : Burst) (n : Fin 32) (s : State), s.resetHeld = none → s.dispatcher.waiting = some p →
     headBurst s p = some b → b.kind.isMedia = true → b.tag.toNat = n.val →
     (16 ≤ s.writeQueue.length → exec .waitingBurstAccepted s = .next s) ∧
     (s.writeQueue.length < 16 → s.faults.mode = .normal → inService s.contexts[n].state = true →
       s.entries[n].parityGood = true → s.entries[n].fields.source = .ingress p →
       exec .waitingBurstAccepted s = .next (acceptBurst n b (finishBurst p s))) ∧
     (s.writeQueue.length < 16 → s.faults.mode = .safe → exec .waitingBurstAccepted s = .next (finishBurst p s)) ∧
     (s.writeQueue.length < 16 → s.faults.mode = .normal → inService s.contexts[n].state = false →
       exec .waitingBurstAccepted s = .next (misroute p (finishBurst p s))) ∧
     (s.writeQueue.length < 16 → s.faults.mode = .normal → inService s.contexts[n].state = true →
       s.entries[n].parityGood = true → s.entries[n].fields.source ≠ .ingress p →
       exec .waitingBurstAccepted s = .next (misroute p (finishBurst p s))) ∧
     (s.writeQueue.length < 16 → s.faults.mode = .normal → inService s.contexts[n].state = true →
       s.entries[n].parityGood = false →
       exec .waitingBurstAccepted s = .next
         (misroute p
           (finishBurst p (entryParityFailure n { s with dispatcher := { s.dispatcher with waiting := none } })))))

/-! ## Streams and frame rings (03, 04) -/

/-- R41 to R46, R49, R50: the stream context at a frame start: refusing cleared, the gap check, the interval captured and its rate
class; with measuring clear nothing is judged, with measuring set the interval is judged; and the judgement in each state of the
stream. P and T are those in force in the state given (log entry 34 for a tick that adopts new ones); the mark activityDue is the
model's own (log entry 5). R41, R60: a burst that starts a frame does the context's work before the ring's. -/
def Obligations.FrameStartMeasured : Prop :=
  (∀ (n : Fin 32) (frame : BitVec 16) (s : State),
     (s.contexts[n].measuring = false →
       (frameStartContext n frame s).contexts[n] =
         { s.contexts[n] with
           refusing := false, lastFrameNumber := some frame, measuring := true, intervalCounter := 0 }) ∧
     (s.contexts[n].measuring = true →
       (frameStartContext n frame s).contexts[n].lastInterval = some s.contexts[n].intervalCounter ∧
       (frameStartContext n frame s).contexts[n].intervalMin =
         some (min (s.contexts[n].intervalMin.getD s.contexts[n].intervalCounter) s.contexts[n].intervalCounter) ∧
       (frameStartContext n frame s).contexts[n].intervalMax =
         some (max (s.contexts[n].intervalMax.getD s.contexts[n].intervalCounter) s.contexts[n].intervalCounter) ∧
       (frameStartContext n frame s).contexts[n].intervalCounter = 0 ∧
       (frameStartContext n frame s).contexts[n].measuring = true ∧
       (frameStartContext n frame s).contexts[n].refusing = false ∧
       (frameStartContext n frame s).contexts[n].lastFrameNumber = some frame ∧
       (frameStartContext n frame s).contexts[n].rateClass =
         some
           (if s.contexts[n].intervalCounter + s.reference.params.tolerance < s.reference.params.period then .fast
            else if s.contexts[n].intervalCounter ≤ s.reference.params.period + s.reference.params.tolerance then .matched
            else .slow)) ∧
     ((frameStartContext n frame s).live.streams[n].gaps =
       if s.entries[n].fields.gapCheck = true ∧ ∃ last, s.contexts[n].lastFrameNumber = some last ∧ frame ≠ last + 1#16 then
         bump s.counterMode s.live.streams[n].gaps 1
       else s.live.streams[n].gaps) ∧
     Keeps [.contexts, .rings, .live, .latches] s (frameStartContext n frame s) ∧
     (let gapped : State :=
        if s.entries[n].fields.gapCheck = true ∧ ∃ last, s.contexts[n].lastFrameNumber = some last ∧ frame ≠ last + 1#16 then
          countStream n .gaps s
        else s
      (s.contexts[n].measuring = false →
        frameStartContext n frame s =
          { gapped with
            contexts :=
              s.contexts.set n
                { s.contexts[n] with
                  refusing := false, lastFrameNumber := some frame, measuring := true, intervalCounter := 0 } }) ∧
      (s.contexts[n].measuring = true →
        frameStartContext n frame s =
          judgeInterval n s.contexts[n].intervalCounter
            { gapped with
              contexts :=
                s.contexts.set n
                  { s.contexts[n] with
                    refusing := false, lastFrameNumber := some frame, intervalCounter := 0
                    lastInterval := some s.contexts[n].intervalCounter
                    intervalMin := some
                      (min (s.contexts[n].intervalMin.getD s.contexts[n].intervalCounter) s.contexts[n].intervalCounter)
                    intervalMax := some
                      (max (s.contexts[n].intervalMax.getD s.contexts[n].intervalCounter) s.contexts[n].intervalCounter)
                    rateClass := some
                      (if s.contexts[n].intervalCounter + s.reference.params.tolerance < s.reference.params.period then .fast
                       else if s.contexts[n].intervalCounter ≤ s.reference.params.period + s.reference.params.tolerance then
                         .matched
                       else .slow) } })) ∧
     (∀ b : Burst, (beginsFrame b.kind = true ↔ b.kind = .startBurst ∨ b.kind = .singleBurst) ∧
       (beginsFrame b.kind = true → acceptBurst n b s = ringFrameStart n b (frameStartContext n b.frameNumber s)))) ∧
  (∀ (n : Fin 32) (interval : Nat) (s : State),
     (inWindow s.entries[n].fields interval = true ↔
       s.entries[n].fields.windowMin ≤ interval ∧ interval ≤ s.entries[n].fields.windowMax ∧ interval ≠ 0xFFFFFF) ∧
     (s.contexts[n].state = .acquiring ∨ s.contexts[n].state = .lost →
       (inWindow s.entries[n].fields interval = true → s.contexts[n].lockProgress + 1 < s.entries[n].fields.lockCount →
         judgeInterval n interval s =
           modifyContext n (fun c => { c with lockProgress := c.lockProgress + 1 }) s) ∧
       (inWindow s.entries[n].fields interval = true → s.entries[n].fields.lockCount ≤ s.contexts[n].lockProgress + 1 →
         judgeInterval n interval s =
           raise .streamLocked n.val 0
             (modifyContext n
               (fun c =>
                 { c with
                   state := .locked, lockProgress := c.lockProgress + 1, cadenceRun := 0, windowTicks := 0,
                   windowFrames := 0, activityDue := false })
               s)) ∧
       (inWindow s.entries[n].fields interval = false →
         judgeInterval n interval s =
           modifyContext n (fun c => { c with lockProgress := 0 }) s)) ∧
     (s.contexts[n].state = .locked →
       (inWindow s.entries[n].fields interval = true →
         judgeInterval n interval s =
           modifyContext n (fun c => { c with cadenceRun := 0 }) s) ∧
       (inWindow s.entries[n].fields interval = false →
         (judgeInterval n interval s).live =
           { s.live with
             streams := s.live.streams.set n
               { s.live.streams[n] with cadenceErrors := bump s.counterMode s.live.streams[n].cadenceErrors 1 } }) ∧
       (inWindow s.entries[n].fields interval = false → s.contexts[n].cadenceRun + 1 < s.entries[n].fields.cadenceLimit →
         (judgeInterval n interval s).contexts =
           s.contexts.set n { s.contexts[n] with cadenceRun := s.contexts[n].cadenceRun + 1 } ∧
         Keeps [.contexts, .live] s (judgeInterval n interval s)) ∧
       (inWindow s.entries[n].fields interval = false → s.entries[n].fields.cadenceLimit ≤ s.contexts[n].cadenceRun + 1 →
         (judgeInterval n interval s).contexts =
           s.contexts.set n
             { s.contexts[n] with
               state := .lost, lockProgress := 0, cadenceRun := 0, windowTicks := 0, windowFrames := 0,
               activityDue := false } ∧
         (judgeInterval n interval s).latches = (raise .streamLost n.val 1 s).latches ∧
         (∀ i : Fin 8, (judgeInterval n interval s).rings[n][i] =
           if (s.rings[n][i].state = .ready ∨ s.rings[n][i].state = .shown) ∧ s.rings[n][i].holdCount = 0 then
             emptied s.rings[n][i]
           else s.rings[n][i]) ∧
         (∀ m : Fin 32, m ≠ n → (judgeInterval n interval s).rings[m] = s.rings[m]) ∧
         Keeps [.contexts, .rings, .live, .latches] s (judgeInterval n interval s))))

/-- R62 to R66, R57, R61: what a frame start does to the ring of its stream (that one buffer at most is FILLING is a law of the part,
stated below). R41, R60: a START or SINGLE that the dispatcher takes does the stream context's work first and then the ring's. -/
def Obligations.FrameStartInRing : Prop :=
  (∀ (n : Fin 32) (b : Burst) (s : State), beginsFrame b.kind = true →
     (OneFilling s → ∀ i, fillingBuffer s n = some i →
       fillingBuffer (abandon ⟨n, i⟩ 4 s) n = none ∧ ringFrameStart n b s = ringFrameStart n b (abandon ⟨n, i⟩ 4 s)) ∧
     (fillingBuffer s n = none →
       (∀ cause, frameStartFault s.entries[n].fields b = some cause →
         ringFrameStart n b s = raise .frameDamaged n.val cause (countStream n .damaged s)) ∧
       (frameStartFault s.entries[n].fields b = none → chooseTarget s n = none →
         ringFrameStart n b s =
           raise .ringStarved n.val 0
             (countStream n .refused
               (modifyContext n (fun c => { c with refusing := true }) s))) ∧
       (∀ i, frameStartFault s.entries[n].fields b = none → chooseTarget s n = some i →
         let written : State :=
           { s with
             rings := s.rings.set n
               (s.rings[n].set i
                 { s.rings[n][i] with
                   state := if b.kind = .singleBurst then .sealing else .filling
                   fillTag := s.contexts[n].fillTagCounter
                   sourceFrame := some b.frameNumber
                   nextIndex := if b.kind = .singleBurst then none else some 1
                   lastWords := if b.kind = .singleBurst then some b.payload.length else none
                   burstCount := if b.kind = .singleBurst then some 1 else none
                   sequence := none, stamp := none, mediaError := false })
             contexts := s.contexts.set n
               { s.contexts[n] with
                 fillTagCounter := s.contexts[n].fillTagCounter + 1#8
                 writesOutstanding := s.contexts[n].writesOutstanding + 1 }
             writeQueue := s.writeQueue ++
               [{ stream := n, buffer := i, fillTag := s.contexts[n].fillTagCounter,
                  target := s.entries[n].fields.regionBase + i.val * s.entries[n].fields.bufferSize,
                  payload := orderedPayload s.entries[n].fields.wordOrder b.payload,
                  lastBurst := b.kind == .singleBurst, state := .queued }]
             live := { s.live with
               streams := s.live.streams.set n
                 (if s.rings[n][i].state = .ready then
                   { s.live.streams[n] with dropped := bump s.counterMode s.live.streams[n].dropped 1 }
                  else s.live.streams[n]) } }
         ringFrameStart n b s = tapStream n b.kind b.payload written ∧
           Keeps [.checker, .latches] written (ringFrameStart n b s))) ∧
     (frameStartFault s.entries[n].fields b =
       if b.index ≠ 0 then some 0
       else if b.kind = .startBurst ∧ b.payload.length ≠ 64 then some 1
       else if b.kind = .singleBurst ∧ s.entries[n].fields.expectedBursts ≠ 0 ∧ s.entries[n].fields.expectedBursts ≠ 1 then some 1
       else none)) ∧
  (∀ (p : Fin 4) (n : Fin 32) (b : Burst) (s : State), DispatchesNext s p b → b.kind = .startBurst ∨ b.kind = .singleBurst →
     b.tag.toNat = n.val → s.faults.mode = .normal → inService s.contexts[n].state = true → s.entries[n].parityGood = true →
     s.entries[n].fields.source = .ingress p → s.writeQueue.length < 16 →
     exec .dispatchBurst s = .next (ringFrameStart n b (frameStartContext n b.frameNumber (finishBurst p s))))

/-- R64: the target of a frame start is the EMPTY buffer of the ring with the lowest index; with none EMPTY, a complete unheld buffer
whose sequence is oldest, counted back from the sequence counter; with none of these there is no target. -/
def Obligations.TargetChoice : Prop :=
  ∀ (n : Fin 32) (s : State),
    (∀ i : Fin 8, i.val < s.entries[n].fields.ringLength → s.rings[n][i].state = .empty →
      (∀ j : Fin 8, j < i → s.rings[n][j].state ≠ .empty) → chooseTarget s n = some i) ∧
    ((∀ j : Fin 8, j.val < s.entries[n].fields.ringLength → s.rings[n][j].state ≠ .empty) →
      (∀ i : Fin 8, chooseTarget s n = some i →
        i.val < s.entries[n].fields.ringLength ∧ s.rings[n][i].complete = true ∧ s.rings[n][i].holdCount = 0 ∧
        ∀ j : Fin 8, j.val < s.entries[n].fields.ringLength → s.rings[n][j].complete = true → s.rings[n][j].holdCount = 0 →
          (s.contexts[n].sequenceCounter - s.rings[n][j].sequence.getD 0).toNat ≤
            (s.contexts[n].sequenceCounter - s.rings[n][i].sequence.getD 0).toNat) ∧
      (chooseTarget s n = none ↔
        ∀ j : Fin 8, j.val < s.entries[n].fields.ringLength →
          ¬(s.rings[n][j].complete = true ∧ s.rings[n][j].holdCount = 0)))

/-- R67 to R71: what a BODY or END does: an orphan, an abandonment, one more burst of the frame, or its seal. R61: with word order
SWAPPED the four bytes of each word are reversed, with NORMAL the words stay. -/
def Obligations.ContinuingBurst : Prop :=
  (∀ (n : Fin 32) (b : Burst) (s : State), b.kind = .bodyBurst ∨ b.kind = .endBurst →
     (fillingBuffer s n = none → acceptBurst n b s = countStream n .orphans s) ∧
     (∀ i, fillingBuffer s n = some i →
       (∀ cause, continuationFault s.entries[n].fields s.rings[n][i] b = some cause →
         acceptBurst n b s =
           raise .frameDamaged n.val cause
             (countStream n .damaged
               (modifyBuffer ⟨n, i⟩ emptied s))) ∧
       (continuationFault s.entries[n].fields s.rings[n][i] b = none →
         let written : State :=
           { s with
             rings := s.rings.set n
               (s.rings[n].set i
                 (if b.kind = .endBurst then
                   { s.rings[n][i] with
                     state := .sealing, lastWords := some b.payload.length, burstCount := some (b.index + 1),
                     nextIndex := none }
                  else { s.rings[n][i] with nextIndex := some (b.index + 1) }))
             contexts := s.contexts.set n
               { s.contexts[n] with writesOutstanding := s.contexts[n].writesOutstanding + 1 }
             writeQueue := s.writeQueue ++
               [{ stream := n, buffer := i, fillTag := s.rings[n][i].fillTag,
                  target := s.entries[n].fields.regionBase + i.val * s.entries[n].fields.bufferSize + b.index,
                  payload := orderedPayload s.entries[n].fields.wordOrder b.payload,
                  lastBurst := b.kind == .endBurst, state := .queued }] }
         acceptBurst n b s = tapStream n b.kind b.payload written ∧
           Keeps [.checker, .latches] written (acceptBurst n b s))) ∧
     (∀ r : Buffer, continuationFault s.entries[n].fields r b =
       if some b.index ≠ r.nextIndex then some 0
       else if s.entries[n].fields.expectedBursts ≠ 0 ∧ s.entries[n].fields.expectedBursts ≤ b.index then some 2
       else if s.entries[n].fields.bufferSize ≤ b.index then some 3
       else if b.kind = .bodyBurst ∧ b.payload.length ≠ 64 then some 1
       else if b.kind = .endBurst ∧ s.entries[n].fields.expectedBursts ≠ 0 ∧
           b.index + 1 < s.entries[n].fields.expectedBursts then some 1
       else none)) ∧
  ((∀ ws : List Word, orderedPayload .normal ws = ws) ∧
   (∀ b0 b1 b2 b3 : BitVec 8, ∀ ws : List Word,
     orderedPayload .swapped ((b0 ++ b1 ++ b2 ++ b3 : BitVec 32) :: ws) =
       (b3 ++ b2 ++ b1 ++ b0 : BitVec 32) :: orderedPayload .swapped ws))

/-- R47, R49, R75: the activity judgement of a LOCKED stream whose window a tick has found full, with the purge of its ring at the entry
to LOST; and R42: INTERVAL_OVERFLOW is raised once when the counter has reached its end. The marks that make both due are the
model's own (log entry 5); with nothing due neither row changes anything (log entry 2). -/
def Obligations.StreamTimeRows : Prop :=
  ∀ (n : Fin 32) (s : State), s.resetHeld = none →
    (s.contexts[n].state = .locked → s.contexts[n].activityDue = true →
      (s.contexts[n].windowFrames < s.entries[n].fields.activityThreshold →
        exec (.activityJudgement n) s = .next (goLost n 0 s)) ∧
      (s.entries[n].fields.activityThreshold ≤ s.contexts[n].windowFrames →
        exec (.activityJudgement n) s = .next
          (modifyContext n (fun c => { c with windowTicks := 0, windowFrames := 0, activityDue := false }) s))) ∧
    (s.contexts[n].state ≠ .locked ∨ s.contexts[n].activityDue = false →
      exec (.activityJudgement n) s = .next s) ∧
    (s.contexts[n].overflowDue = true →
      exec (.intervalOverflow n) s = .next
        (raise .intervalOverflow n.val 0
          (modifyContext n (fun c => { c with overflowDue := false }) s))) ∧
    (s.contexts[n].overflowDue = false → exec (.intervalOverflow n) s = .next s) ∧
    ((goLost n 0 s).contexts[n] =
      { s.contexts[n] with
            state := .lost, lockProgress := 0, cadenceRun := 0, windowTicks := 0, windowFrames := 0, activityDue := false } ∧
     (goLost n 0 s).latches = (raise .streamLost n.val 0 s).latches ∧
     (∀ i : Fin 8, (goLost n 0 s).rings[n][i] =
       if (s.rings[n][i].state = .ready ∨ s.rings[n][i].state = .shown) ∧ s.rings[n][i].holdCount = 0 then
         emptied s.rings[n][i]
       else s.rings[n][i]) ∧
     (∀ m : Fin 32, m ≠ n → (goLost n 0 s).rings[m] = s.rings[m] ∧ (goLost n 0 s).contexts[m] = s.contexts[m]) ∧
     Keeps [.contexts, .rings, .latches] s (goLost n 0 s))

/-- R51, R77: the context and the buffers of a stream at its entry to CLOSING, with DAMAGED and FRAME_DAMAGED cause 4 for each buffer
abandoned (R71), the misroute of a burst of the stream that the dispatcher waits with (R11) and TEST cause 1 of the generator
aborted (R160); R52: it goes on to OFF when nothing holds it. The marks activityDue and frameStartDue that are cleared are the
model's own (log entry 5). -/
def Obligations.EntryToClosing : Prop :=
  (∀ (n : Fin 32) (s : State),
     ((enterClosing n s).contexts[n].state = .closing ∨ (enterClosing n s).contexts[n].state = .off) ∧
     ((enterClosing n s).contexts[n].state = .off ↔
       s.contexts[n].writesOutstanding = 0 ∧ ∀ i : Fin 8, s.rings[n][i].holdCount = 0) ∧
     (∃ st : StreamState, (enterClosing n s).contexts[n] =
       { s.contexts[n] with
         state := st, measuring := false, intervalCounter := 0, lockProgress := 0, cadenceRun := 0, windowTicks := 0,
         windowFrames := 0, activityDue := false }) ∧
     (∀ i : Fin 8, (enterClosing n s).rings[n][i] =
       if s.rings[n][i].state = .filling ∨ s.rings[n][i].state = .sealing ∨
           (s.rings[n][i].complete = true ∧ s.rings[n][i].holdCount = 0) then emptied s.rings[n][i]
       else s.rings[n][i]) ∧
     (s.generator.state = .running → s.generator.stream = some n →
       (enterClosing n s).generator.state = .stopped ∧ (enterClosing n s).generator.inProgress = false) ∧
     (∀ m : Fin 32, m ≠ n →
       (enterClosing n s).contexts[m] = s.contexts[m] ∧ (enterClosing n s).rings[m] = s.rings[m]) ∧
     (∃ streams ingress, (enterClosing n s).live = { s.live with streams := streams, ingress := ingress }) ∧
     Keeps [.contexts, .rings, .live, .latches, .generator, .ingress, .dispatcher] s (enterClosing n s)) ∧
  (∀ (n : Fin 32) (s : State),
     ((enterClosing n s).live.streams =
       s.live.streams.set n
         { s.live.streams[n] with
           damaged :=
             (fun v => bump s.counterMode v 1)^[((indexes 8).filter fun i =>
               s.rings[n][i].state == .filling || s.rings[n][i].state == .sealing).length] s.live.streams[n].damaged }) ∧
     ((∃ i : Fin 8, s.rings[n][i].state = .filling ∨ s.rings[n][i].state = .sealing) →
       (enterClosing n s).latches[(4 : Fin 16)] =
         { s.latches[(4 : Fin 16)] with pending := true, source := BitVec.ofNat 5 n.val, cause := 4#4 }) ∧
     ((∀ i : Fin 8, s.rings[n][i].state ≠ .filling ∧ s.rings[n][i].state ≠ .sealing) →
       (enterClosing n s).latches[(4 : Fin 16)] = s.latches[(4 : Fin 16)]) ∧
     (s.generator.state = .running → s.generator.stream = some n →
       (enterClosing n s).generator =
         { s.generator with
           state := .stopped, inProgress := false, stopRequested := false, waiting := none, frameStartDue := false } ∧
       (enterClosing n s).latches[(1 : Fin 16)] =
         { s.latches[(1 : Fin 16)] with pending := true, source := BitVec.ofNat 5 n.val, cause := 1#4 }) ∧
     (s.generator.state ≠ .running ∨ s.generator.stream ≠ some n →
       (enterClosing n s).generator = s.generator ∧ (enterClosing n s).latches[(1 : Fin 16)] = s.latches[(1 : Fin 16)]) ∧
     (∀ (p : Fin 4) (b : Burst), s.dispatcher.waiting = some p → headBurst s p = some b → b.tag.toNat = n.val →
       (enterClosing n s).dispatcher = { pointer := p + 1, waiting := none } ∧
       (enterClosing n s).ingress = s.ingress.set p { s.ingress[p] with fifo := s.ingress[p].fifo.tail } ∧
       (enterClosing n s).live.ingress =
         s.live.ingress.set p
           { s.live.ingress[p] with misroutes := bump s.counterMode s.live.ingress[p].misroutes 1 } ∧
       (enterClosing n s).latches[(3 : Fin 16)] =
         { s.latches[(3 : Fin 16)] with pending := true, source := BitVec.ofNat 5 p.val, cause := 0#4 }) ∧
     (s.dispatcher.waiting = none ∨
         (∃ p b, s.dispatcher.waiting = some p ∧ headBurst s p = some b ∧ b.tag.toNat < 32 ∧ b.tag.toNat ≠ n.val) →
       (enterClosing n s).dispatcher = s.dispatcher ∧ (enterClosing n s).ingress = s.ingress ∧
       (enterClosing n s).live.ingress = s.live.ingress ∧
       (enterClosing n s).latches[(3 : Fin 16)] = s.latches[(3 : Fin 16)]) ∧
     (∀ i : Fin 16, i ≠ 1 → i ≠ 3 → i ≠ 4 → (enterClosing n s).latches[i] = s.latches[i]))

/-! ## Frame memory and arbitration (07) -/

/-- R134 to R136: the claims that stand, at each level, and the order in which the arbiter takes them. -/
def Obligations.ClaimOrder : Prop :=
  (∀ s : State,
    (chooseClaim s =
      if 8 ≤ s.arbiter.refreshOwed then some .refresh
      else
        (((kindsInOrder s.arbiter.order).findSome? (urgentClaim s)).or
          (((kindsInOrder s.arbiter.order).findSome? (normalClaim s)).or
            (if 1 ≤ s.arbiter.refreshOwed then some .refresh else none)))) ∧
    (ingressClaims s = true ↔
      (∃ e ∈ s.writeQueue, e.state = .queued) ∧ ∀ e ∈ s.writeQueue, e.state ≠ .writing) ∧
    (urgentClaim s .ingress = if ingressClaims s = true ∧ 12 ≤ s.writeQueue.length then some .ingress else none) ∧
    (normalClaim s .ingress = if ingressClaims s = true then some .ingress else none) ∧
    urgentClaim s .mgmt = none ∧
    (s.arbiter.access = none →
      (∀ j, s.executor = .waitMemory j → normalClaim s .mgmt = some .mgmt) ∧
      ((∀ j, s.executor ≠ .waitMemory j) → normalClaim s .mgmt = none)) ∧
    (∀ k : Fin 16, urgentClaim s .egress = some (.egress k) ↔
      readerUrgent s.arbiter s.emissions[k] = true ∧
        ∀ j : Fin 16, (j - (s.arbiter.egressPointer + 1)).val < (k - (s.arbiter.egressPointer + 1)).val →
          readerUrgent s.arbiter s.emissions[j] = false) ∧
    (∀ k : Fin 16, normalClaim s .egress = some (.egress k) ↔
      readerClaims s.arbiter s.emissions[k] = true ∧
        ∀ j : Fin 16, (j - (s.arbiter.egressPointer + 1)).val < (k - (s.arbiter.egressPointer + 1)).val →
          readerClaims s.arbiter s.emissions[j] = false) ∧
    (∀ u : EmissionUnit,
      (readerClaims s.arbiter u = true ↔
        u.record.status = .active ∧ u.record.sourceKind = some .frame ∧ u.record.blocksRequested < u.record.burstsTotal ∧
          u.readInFlight = none ∧ fifoFill u ≤ s.arbiter.lowMark) ∧
      (readerUrgent s.arbiter u = true ↔ readerClaims s.arbiter u = true ∧ fifoFill u ≤ s.arbiter.urgentMark))) ∧
  (kindsInOrder .egressIngressMgmt = [.egress, .ingress, .mgmt] ∧ kindsInOrder .egressMgmtIngress = [.egress, .mgmt, .ingress] ∧
    kindsInOrder .ingressEgressMgmt = [.ingress, .egress, .mgmt] ∧ kindsInOrder .ingressMgmtEgress = [.ingress, .mgmt, .egress] ∧
    kindsInOrder .mgmtEgressIngress = [.mgmt, .egress, .ingress] ∧ kindsInOrder .mgmtIngressEgress = [.mgmt, .ingress, .egress])

/-- R115, R133, R135, R136: what a grant of each kind does. While memory is BUSY or no claim stands nothing is granted: that the command
then changes nothing is the model's choice (log entry 2). -/
def Obligations.MemoryGranted : Prop :=
  ∀ s : State, s.resetHeld = none →
    (s.arbiter.access.isSome = true ∨ chooseClaim s = none → exec .memoryGrant s = .next s) ∧
    (s.arbiter.access = none →
      (chooseClaim s = some .refresh →
        exec .memoryGrant s = .next { s with arbiter := { s.arbiter with access := some .refresh } }) ∧
      (chooseClaim s = some .mgmt →
        exec .memoryGrant s = .next { s with arbiter := { s.arbiter with access := some .mgmt } }) ∧
      (∀ e rest, chooseClaim s = some .ingress → s.writeQueue = e :: rest →
        exec .memoryGrant s = .next
          { s with
            arbiter := { s.arbiter with access := some .ingress }
            writeQueue := { e with state := .writing } :: rest }) ∧
      (∀ (k : Fin 16) (b : BufferName) (tag : BitVec 8) (base : Nat), chooseClaim s = some (.egress k) →
        s.emissions[k].record.buffer = some b → s.emissions[k].record.fillTag = some tag →
        s.emissions[k].record.baseBlock = some base →
        exec .memoryGrant s = .next
          { s with
            arbiter := { s.arbiter with access := some (.egress k), egressPointer := k }
            emissions :=
              s.emissions.set k
                { s.emissions[k] with
                  record := { s.emissions[k].record with blocksRequested := s.emissions[k].record.blocksRequested + 1 }
                  readInFlight := some
                    { buffer := b, fillTag := tag, block := base + s.emissions[k].record.blocksRequested,
                      owner := .activeEmission } } }))

/-- R138: one bit in error among the 72 of a memory word is corrected, two are uncorrectable; an access is judged by the worst memory
word it met, counted, and reported to the fault unit. R133, R140: a write is judged by the memory words it merges, the first when it
begins at an odd word and the last when it ends in the middle of one. More than two bits in error is open (log entry 12): nothing
here says how such a word is judged. -/
def Obligations.ErrorsJudged : Prop :=
  (∀ (m : FrameMemory) (k : Nat),
    (badBitsOf m.badBits k = [] → m.verdict k = .good ∧ m.deliver (2 * k) = m.cells.readWord (2 * k) ∧
      m.deliver (2 * k + 1) = m.cells.readWord (2 * k + 1)) ∧
    (∀ b, badBitsOf m.badBits k = [b] → m.verdict k = .corrected ∧ m.deliver (2 * k) = m.cells.readWord (2 * k) ∧
      m.deliver (2 * k + 1) = m.cells.readWord (2 * k + 1)) ∧
    (∀ b c, badBitsOf m.badBits k = [b, c] → m.verdict k = .uncorrectable)) ∧
  (∀ (m : FrameMemory) (k n : Nat),
    (m.worst k n = .uncorrectable ↔ ∃ i, i < n ∧ m.verdict (k + i) = .uncorrectable) ∧
    (m.worst k n = .good ↔ ∀ i, i < n → m.verdict (k + i) = .good)) ∧
  (∀ (m : FrameMemory) (a n : Nat),
    (m.mergeVerdict a n = .uncorrectable ↔
      n ≠ 0 ∧ ((a % 2 = 1 ∧ m.verdict (a / 2) = .uncorrectable) ∨
        ((a + n) % 2 = 1 ∧ m.verdict ((a + n - 1) / 2) = .uncorrectable))) ∧
    (m.mergeVerdict a n = .good ↔
      n = 0 ∨ ((a % 2 = 1 → m.verdict (a / 2) = .good) ∧
        ((a + n) % 2 = 1 → m.verdict ((a + n - 1) / 2) = .good)))) ∧
  (∀ (source : FaultSource) (i block : Nat) (s : State),
    judgeAccess .good source i block s = s ∧
    judgeAccess .corrected source i block s =
      minorFault .corrected source i (some block)
        { s with
          live :=
            { s.live with memory :=
                { s.live.memory with corrected := bump s.counterMode s.live.memory.corrected 1 } } } ∧
    judgeAccess .uncorrectable source i block s =
      majorFault .uncorrectable source i (some block)
        { s with
          live :=
            { s.live with memory :=
                { s.live.memory with uncorrectable := bump s.counterMode s.live.memory.uncorrectable 1 } } })

/-- R133, R140: after words are stored from a word address on, they read back; the other word of a memory word written in half is
written back as it was delivered; every other byte keeps its value, and just the memory words written have fresh check bits. (That
the cells are in canonical form is a law of the part, stated below.) -/
def Obligations.StoredWordsReadBack : Prop :=
  ∀ (m : FrameMemory) (a : Nat) (vs : List Word), m.cells.wf = true → vs ≠ [] →
    (∀ i (h : i < vs.length), (m.store a vs).cells.readWord (a + i) = vs[i]) ∧
    (a % 2 = 1 → (m.store a vs).cells.readWord (a - 1) = m.deliver (a - 1)) ∧
    ((a + vs.length) % 2 = 1 → (m.store a vs).cells.readWord (a + vs.length) = m.deliver (a + vs.length)) ∧
    (∀ byte : Nat, byte / 8 < a / 2 ∨ (a + vs.length - 1) / 2 < byte / 8 →
      (m.store a vs).cells.read byte = m.cells.read byte) ∧
    (∀ bit : Nat, bit ∈ (m.store a vs).badBits ↔
      bit ∈ m.badBits ∧ (bit / 72 < a / 2 ∨ (a + vs.length - 1) / 2 < bit / 72)) ∧
    (m.store a vs).blocks = m.blocks

/-- R133, R72, R73, R53, R48, R52, R78: the completion of the head write, which may complete its frame and may bring a CLOSING stream to
OFF; R138, R166: the access judged by the memory word it merges and reported with the write queue, the stream and the target block.
A target outside frame memory stops by name (the model's choice, log entry 22); with no write in progress nothing changes (log entry
2). Where the report makes the part enter SAFE, SAFE is taken before the space for a burst that waits: R11 and R158 let either come
first, and this is the model's choice (log entry 31). -/
def Obligations.WriteCompleted : Prop :=
  ∀ s : State, s.resetHeld = none →
    (s.arbiter.access ≠ some .ingress ∨ s.writeQueue = [] → exec .writeCompletion s = .next s) ∧
    (∀ e rest, s.arbiter.access = some .ingress → s.writeQueue = e :: rest →
      (s.memory.blocks ≤ e.target → exec .writeCompletion s = .fault .noSuchBlock) ∧
      (e.target < s.memory.blocks → ∃ t, exec .writeCompletion s = .next t ∧
        t.writeQueue = rest ∧ t.arbiter = { s.arbiter with access := none } ∧
        t.memory = s.memory.store (64 * e.target) e.payload ∧
        t.contexts[e.stream].writesOutstanding = s.contexts[e.stream].writesOutstanding - 1 ∧
        (e.lastBurst = true ∧ s.rings[e.stream][e.buffer].state = .sealing ∧
            s.rings[e.stream][e.buffer].fillTag = e.fillTag →
          t.rings =
            s.rings.set e.stream
              (s.rings[e.stream].set e.buffer
                { s.rings[e.stream][e.buffer] with
                  state := .ready
                  sequence := some (s.contexts[e.stream].sequenceCounter + 1#32)
                  stamp := some s.reference.tickNumber }) ∧
          t.contexts[e.stream].sequenceCounter = s.contexts[e.stream].sequenceCounter + 1#32 ∧
          t.contexts[e.stream].windowFrames =
            (if s.contexts[e.stream].windowFrames < 15 then s.contexts[e.stream].windowFrames + 1
             else s.contexts[e.stream].windowFrames) ∧
          t.live.streams =
            s.live.streams.set e.stream
              { s.live.streams[e.stream] with
                accepted := bump s.counterMode s.live.streams[e.stream].accepted 1 }) ∧
        (¬(e.lastBurst = true ∧ s.rings[e.stream][e.buffer].state = .sealing ∧
            s.rings[e.stream][e.buffer].fillTag = e.fillTag) →
          t.rings = s.rings ∧ t.live.streams = s.live.streams ∧
          t.contexts[e.stream].sequenceCounter = s.contexts[e.stream].sequenceCounter) ∧
        (t.contexts[e.stream].state =
          if s.contexts[e.stream].state = .closing ∧ s.contexts[e.stream].writesOutstanding ≤ 1 ∧
              (∀ i : Fin 8, s.rings[e.stream][i].holdCount = 0) then .off
          else s.contexts[e.stream].state) ∧
        (t.contexts[e.stream] =
          { s.contexts[e.stream] with
            writesOutstanding := s.contexts[e.stream].writesOutstanding - 1
            sequenceCounter := t.contexts[e.stream].sequenceCounter
            windowFrames := t.contexts[e.stream].windowFrames
            state := t.contexts[e.stream].state }) ∧
        (¬(e.lastBurst = true ∧ s.rings[e.stream][e.buffer].state = .sealing ∧
            s.rings[e.stream][e.buffer].fillTag = e.fillTag) →
          t.contexts[e.stream].windowFrames = s.contexts[e.stream].windowFrames) ∧
        (∀ n : Fin 32, n ≠ e.stream → t.contexts[n] = s.contexts[n]) ∧
        (∃ u,
          t = judgeAccess (s.memory.mergeVerdict (64 * e.target) e.payload.length) .writeQueue e.stream.val e.target u ∧
          Keeps [.memory, .writeQueue, .arbiter, .contexts, .rings, .live] s u ∧
          u.live = { s.live with streams := t.live.streams } ∧ Keeps faultTouches u t)))

/-- R116, R117, R124, R79: the completion of a slot read: the 64 words delivered join the slot FIFO, marked when uncorrectable, unless
the emission has been cut; the buffer of a marked block is marked while it is complete and has the tag. R138, R166: the access
judged by its worst memory word and reported with the slot reader, the slot and the block. A block outside frame memory stops by
name (the model's choice, log entry 22). -/
def Obligations.SlotReadCompleted : Prop :=
  ∀ (k : Fin 16) (r : SlotRead) (s : State), s.resetHeld = none → s.arbiter.access = some (.egress k) →
    s.emissions[k].readInFlight = some r →
    (s.memory.blocks ≤ r.block → exec .slotReadCompletion s = .fault .noSuchBlock) ∧
    (r.block < s.memory.blocks → ∃ t, exec .slotReadCompletion s = .next t ∧
      t.arbiter = { s.arbiter with access := none } ∧ t.memory = s.memory ∧
      (r.owner = .activeEmission → t.emissions =
        s.emissions.set k
          { s.emissions[k] with
            readInFlight := none
            fifo := s.emissions[k].fifo ++
              [{ position := s.emissions[k].record.blocksRequested - 1,
                 words := (List.range 64).map (fun i => s.memory.deliver (64 * r.block + i)),
                 mediaError := decide (s.memory.worst (32 * r.block) 32 = .uncorrectable),
                 owner := .activeEmission, state := .held }] }) ∧
      (r.owner = .cutEmission →
        t.emissions = s.emissions.set k (refill { s.emissions[k] with readInFlight := none })) ∧
      (s.memory.worst (32 * r.block) 32 = .uncorrectable → s.rings[r.buffer.stream][r.buffer.ring].complete = true →
        s.rings[r.buffer.stream][r.buffer.ring].fillTag = r.fillTag →
        t.rings = s.rings.set r.buffer.stream
          (s.rings[r.buffer.stream].set r.buffer.ring
            { s.rings[r.buffer.stream][r.buffer.ring] with mediaError := true })) ∧
      (s.memory.worst (32 * r.block) 32 ≠ .uncorrectable ∨ s.rings[r.buffer.stream][r.buffer.ring].complete = false ∨
        s.rings[r.buffer.stream][r.buffer.ring].fillTag ≠ r.fillTag → t.rings = s.rings) ∧
      (∃ u, t = judgeAccess (s.memory.worst (32 * r.block) 32) .slotReader k.val r.block u ∧
        Keeps [.arbiter, .emissions, .rings] s u ∧ Keeps faultTouches u t))

/-- R138 to R140, R180: the completion of a MemoryRead or MemoryWrite: the access judged, memory IDLE, and the reply offered. A block
that frame memory does not have faults: the model's choice (log entry 22). -/
def Obligations.ManagementAccessCompleted : Prop :=
  ∀ (j : MemoryJob) (s : State), s.resetHeld = none → s.arbiter.access = some .mgmt → s.executor = .waitMemory j →
    (64 * s.memory.blocks < j.address + j.count → exec .managementAccessCompletion s = .fault .noSuchBlock) ∧
    (j.address + j.count ≤ 64 * s.memory.blocks →
      (j.data = none → s.memory.worst (j.address / 2) (memoryWordSpan j.address j.count) ≠ .uncorrectable →
        exec .managementAccessCompletion s = .next
          (offerReply
            { tag := j.tag, code := j.code, status := .ok, reason := 0,
              results := (List.range j.count).map fun i => s.memory.deliver (j.address + i) }
            (judgeAccess (s.memory.worst (j.address / 2) (memoryWordSpan j.address j.count)) .management 0 (j.address / 64)
              { s with arbiter := { s.arbiter with access := none } }))) ∧
      (j.data = none → s.memory.worst (j.address / 2) (memoryWordSpan j.address j.count) = .uncorrectable →
        exec .managementAccessCompletion s = .next
          (offerReply { tag := j.tag, code := j.code, status := .mediaError, reason := 0, results := [] }
            (judgeAccess .uncorrectable .management 0 (j.address / 64)
              { s with arbiter := { s.arbiter with access := none } }))) ∧
      (∀ ws, j.data = some ws →
        exec .managementAccessCompletion s = .next
          (offerReply { tag := j.tag, code := j.code, status := .ok, reason := 0, results := [] }
            (judgeAccess (s.memory.mergeVerdict j.address ws.length) .management 0 (j.address / 64)
              { s with
                arbiter := { s.arbiter with access := none }
                memory := s.memory.store j.address ws }))))

/-- R137: the expiry of the refresh timer and the completion of a refresh. That REFRESH_TIMER_EXPIRY changes nothing while the timer is
below its interval, and REFRESH_COMPLETION nothing while the access in progress is not a refresh, is the model's choice, not R137's
(log entry 2). -/
def Obligations.RefreshRows : Prop :=
  ∀ s : State, s.resetHeld = none →
    (s.arbiter.refreshTimer < s.arbiter.refreshInterval → exec .refreshTimerExpiry s = .next s) ∧
    (s.arbiter.refreshInterval ≤ s.arbiter.refreshTimer →
      (s.arbiter.refreshOwed < 8 →
        exec .refreshTimerExpiry s = .next
          { s with arbiter := { s.arbiter with refreshTimer := 0, refreshOwed := s.arbiter.refreshOwed + 1 } }) ∧
      (8 ≤ s.arbiter.refreshOwed →
        exec .refreshTimerExpiry s = .next
          (majorFault .refreshOverdue .refresh 0 none { s with arbiter := { s.arbiter with refreshTimer := 0 } }))) ∧
    (s.arbiter.access = some .refresh →
      exec .refreshCompletion s = .next
        { s with arbiter := { s.arbiter with access := none, refreshOwed := s.arbiter.refreshOwed - 1 } }) ∧
    (s.arbiter.access ≠ some .refresh → exec .refreshCompletion s = .next s)

/-! ## The reference unit (02) -/

/-- R20, R47, R87, R157: a tick advances the tick number by one before any block acts, counts in the window of every LOCKED stream,
marks a window found full, and gives every slot its work exactly once; the generator counts its ticks and may start a frame. What
each work of a tick is. The order of the works is an operand, and where it names none the counts come first and then the slots; the
generator's own count comes before every work: both are the model's choice (log entry 5). -/
def Obligations.TickDelivered : Prop :=
  ∀ (order : List TickWork) (s : State),
    ((makeTick order s).reference = { s.reference with tickNumber := s.reference.tickNumber + 1#32 }) ∧
    (numberTick s =
      { s with
        reference := { s.reference with tickNumber := s.reference.tickNumber + 1#32 }
        generator :=
          if s.generator.state = .running then
            { s.generator with
              ticksSinceStart := s.generator.ticksSinceStart.map fun t => if t < 255 then t + 1 else t
              frameStartDue :=
                !s.generator.inProgress &&
                  (match s.generator.ticksSinceStart with
                   | none => true
                   | some t => decide (s.generator.spacing ≤ if t < 255 then t + 1 else t)) }
          else s.generator }) ∧
    (∀ n : Fin 32, doTickWork (.count n) s =
      { s with
        contexts :=
          s.contexts.set n
            (if s.contexts[n].state = .locked then
              { s.contexts[n] with
                windowTicks := s.contexts[n].windowTicks + 1
                activityDue := decide (s.entries[n].fields.activityWindow ≤ s.contexts[n].windowTicks + 1) }
             else s.contexts[n]) }) ∧
    (∀ n : Fin 32, doTickWork (.judge n) s = judgeActivity n s) ∧
    (∀ k : Fin 16, doTickWork (.slot k) s = slotWork k s) ∧
    (doTickWork .generator s = startGeneratedFrame s) ∧
    (s.resetHeld = none →
      (∀ n : Fin 32, exec (.activityJudgement n) s = .next (judgeActivity n s)) ∧
      exec .generatorFrameStart s = .next (startGeneratedFrame s)) ∧
    ((tickWorks order).Nodup ∧ (∀ n : Fin 32, TickWork.count n ∈ tickWorks order) ∧
      (∀ k : Fin 16, TickWork.slot k ∈ tickWorks order) ∧ ∀ w ∈ order, w ∈ tickWorks order) ∧
    (tickWorks [] = (indexes 32).map TickWork.count ++ (indexes 16).map TickWork.slot) ∧
    ((∀ n : Fin 32, judgementDue s n = false) → (∀ k : Fin 16, s.slots[k].holdExpiryDue = false) →
      makeTick order s = forEach (tickWorks order) doTickWork (numberTick s))

/-- R19: while TBCLK stands no row of the reference unit makes a tick or sees an edge; that these rows then change nothing is the
model's choice (log entry 30). R22, R25: at c = P a tick is made and c is set to 0: in FREE mode the period's own tick, in SEARCHING
a flywheel tick, which counts; before c reaches P, or in another state, neither row changes anything (log entry 2). R30: pending
parameters take the place of those in force after the tick: c keeps its value, or takes the new T where the tick set c to T; e keeps
its value, or stands at the new P + T + 1 where it stood at the old one or would lie above the new. That the adoption comes after
the works of the tick's row is the model's choice (log entry 34). -/
def Obligations.PeriodTicks : Prop :=
  (∀ (order : List TickWork) (s : State), s.resetHeld = none → s.timebaseRuns = true →
     (s.reference.mode = .free → s.reference.params.period ≤ s.reference.periodCounter →
       exec (.freePeriodExpiry order) s = .next
         { makeTick order s with
           reference := adoptedParams false
             { s.reference with periodCounter := 0, tickNumber := s.reference.tickNumber + 1#32 } }) ∧
     (s.reference.mode ≠ .free ∨ s.reference.periodCounter < s.reference.params.period →
       exec (.freePeriodExpiry order) s = .next s) ∧
     (s.reference.state = .searching → s.reference.params.period ≤ s.reference.periodCounter →
       exec (.searchingFlywheel order) s = .next
         { countReference .flywheelTicks (makeTick order s) with
           reference := adoptedParams false
             { s.reference with periodCounter := 0, tickNumber := s.reference.tickNumber + 1#32 } }) ∧
     (s.reference.state ≠ .searching ∨ s.reference.periodCounter < s.reference.params.period →
       exec (.searchingFlywheel order) s = .next s)) ∧
  (∀ (order : List TickWork) (s : State), s.timebaseRuns = false →
     exec (.freePeriodExpiry order) s = .next s ∧ exec (.refEdge order) s = .next s ∧ exec (.windowClose order) s = .next s ∧
     exec (.searchingFlywheel order) s = .next s) ∧
  (∀ (toTolerance : Bool) (r : Reference) (q : RefParams),
     (r.pendingParams = none → adoptedParams toTolerance r = r) ∧
     (r.pendingParams = some q →
       adoptedParams toTolerance r =
         { r with
           params := q
           pendingParams := none
           periodCounter := if toTolerance then q.tolerance else r.periodCounter
           edgeCounter := r.edgeCounter.map fun e =>
             if e = r.params.period + r.params.tolerance + 1 ∨ q.period + q.tolerance + 1 < e then q.period + q.tolerance + 1
             else e }))

/-- While TBCLK runs: R22, R23, R28: an REF edge is not seen in FREE mode; in TRACKING and COASTING it is stray below P - T and in
window from P - T to P + T, where it makes a tick and REF_STATE is raised if the unit was COASTING. R26, R27: in SEARCHING the good
run follows the value of e, and e is set to 0; at K good spacings the unit is TRACKING again, with a tick at the edge where c is at
least half of P. R30: pending parameters are adopted at the tick. The model's choices: they are adopted after the works of the tick
(log entry 34), no edge is seen while TBCLK stands (log entry 30), and an edge with c above P + T is left out (log entry 23). -/
def Obligations.ReferenceEdges : Prop :=
  (∀ (order : List TickWork) (s : State), s.resetHeld = none → s.timebaseRuns = true →
     (s.reference.state = .free → exec (.refEdge order) s = .next s) ∧
     (s.reference.state = .tracking ∨ s.reference.state = .coasting →
       (s.reference.periodCounter + s.reference.params.tolerance < s.reference.params.period →
         exec (.refEdge order) s = .next (countReference .strayEdges s)) ∧
       (s.reference.params.period ≤ s.reference.periodCounter + s.reference.params.tolerance →
         s.reference.periodCounter ≤ s.reference.params.period + s.reference.params.tolerance →
         ∃ t, exec (.refEdge order) s = .next (if s.reference.state = .coasting then raise .refState 0 1 t else t) ∧
           t = { makeTick order s with
                 reference := adoptedParams false
                   { s.reference with
                     periodCounter := 0, missedRun := 0, state := .tracking,
                     tickNumber := s.reference.tickNumber + 1#32 } }))) ∧
  (∀ (order : List TickWork) (s : State), s.resetHeld = none → s.timebaseRuns = true →
     s.reference.state = .searching →
     (s.reference.edgeCounter = none →
       exec (.refEdge order) s = .next { s with reference := { s.reference with edgeCounter := some 0 } }) ∧
     (∀ e, s.reference.edgeCounter = some e →
       (e + s.reference.params.tolerance < s.reference.params.period ∨
           s.reference.params.period + s.reference.params.tolerance < e →
         exec (.refEdge order) s = .next
           { s with reference := { s.reference with goodRun := 0, edgeCounter := some 0 } }) ∧
       (s.reference.params.period ≤ e + s.reference.params.tolerance →
         e ≤ s.reference.params.period + s.reference.params.tolerance →
         (s.reference.goodRun + 1 < s.reference.params.regainCount →
           exec (.refEdge order) s = .next
             { s with reference := { s.reference with goodRun := s.reference.goodRun + 1, edgeCounter := some 0 } }) ∧
         (s.reference.params.regainCount ≤ s.reference.goodRun + 1 →
           2 * s.reference.periodCounter < s.reference.params.period →
           exec (.refEdge order) s = .next
             (raise .refState 0 1
               { s with
                 reference :=
                   { s.reference with
                     state := .tracking, missedRun := 0, goodRun := 0, edgeCounter := none, periodCounter := 0 } })) ∧
         (s.reference.params.regainCount ≤ s.reference.goodRun + 1 →
           s.reference.params.period ≤ 2 * s.reference.periodCounter →
           ∃ t, exec (.refEdge order) s = .next t ∧
             t = { makeTick order
                     (raise .refState 0 1
                       { s with
                         reference :=
                           { s.reference with state := .tracking, missedRun := 0, goodRun := 0, edgeCounter := none } }) with
                   reference := adoptedParams false
                     { s.reference with
                       state := .tracking, missedRun := 0, goodRun := 0, edgeCounter := none, periodCounter := 0,
                       tickNumber := s.reference.tickNumber + 1#32 } }))))

/-- R24, R25, R28, R30: the close of the window: a flywheel tick that counts, c set to T, the missed run one higher; below M the unit
coasts, at M it searches; REF_STATE is raised where the state changes; pending parameters are adopted, after the works of the tick
by the model's choice (log entry 34). Where no window closes the command changes nothing, which is the model's choice (log entry 2). -/
def Obligations.WindowCloses : Prop :=
  ∀ (order : List TickWork) (s : State), s.resetHeld = none → s.timebaseRuns = true →
    (s.reference.state = .free ∨ s.reference.state = .searching ∨
        s.reference.periodCounter < s.reference.params.period + s.reference.params.tolerance →
      exec (.windowClose order) s = .next s) ∧
    (s.reference.state = .tracking ∨ s.reference.state = .coasting →
      s.reference.params.period + s.reference.params.tolerance ≤ s.reference.periodCounter →
      ∃ t, exec (.windowClose order) s = .next t ∧
        (s.reference.missedRun + 1 < s.reference.params.lossCount →
          t.reference =
            adoptedParams true
              { s.reference with
                state := .coasting, periodCounter := s.reference.params.tolerance,
                missedRun := s.reference.missedRun + 1, tickNumber := s.reference.tickNumber + 1#32 } ∧
          (s.reference.state = .coasting → t.latches = (makeTick order s).latches) ∧
          (s.reference.state = .tracking → t.latches = (raise .refState 0 2 (makeTick order s)).latches)) ∧
        (s.reference.params.lossCount ≤ s.reference.missedRun + 1 →
          t.reference =
            adoptedParams true
              { s.reference with
                state := .searching, periodCounter := s.reference.params.tolerance, missedRun := 0, goodRun := 0,
                edgeCounter := none, tickNumber := s.reference.tickNumber + 1#32 } ∧
          t.latches = (raise .refState 0 3 (makeTick order s)).latches) ∧
        t.live = (countReference .flywheelTicks (makeTick order s)).live ∧
        Keeps [.reference, .latches, .live] (makeTick order s) t)

/-! ## Slots (05, 06) -/

/-- R58, R98, R100, R101: a SUBST tick: the current buffer is let go, the hold timer is 0, the cause is kept, SUBSTITUTES counts,
SLOT_SUBSTITUTE is raised on entry, and the substitute is begun unless it is BLANK or the cause is table. HOLD_EXPIRED is such a
tick with cause hold expired; with no hold expired it changes nothing (log entry 2); the mark of a hold expired is the model's own
(log entry 5). R111, R114: the whole record of the FILL or RAMP emission begun. R112, R118: the fill, and the blocks that such an
emission places, with their words. -/
def Obligations.SubstituteTick : Prop :=
  (∀ (k : Fin 16) (s : State),
     (s.resetHeld = none → s.slots[k].holdExpiryDue = true →
       exec (.holdExpired k) s = .next
         (substitute k .holdExpired { s with slots := s.slots.set k { s.slots[k] with holdExpiryDue := false } })) ∧
     (s.resetHeld = none → s.slots[k].holdExpiryDue = false → exec (.holdExpired k) s = .next s) ∧
     (∀ cause : SubstCause,
       (substitute k cause s).slots =
         s.slots.set k
           { s.slots[k] with
             state := .subst, current := none, holdTimer := 0, cause := some cause
             outputFrame :=
               if cause = .table ∨ s.routes[k].active.fields.substKind = .blank then s.slots[k].outputFrame
               else s.slots[k].outputFrame + 1#16 } ∧
       (substitute k cause s).live =
         { s.live with
           slots := s.live.slots.set k
             { s.live.slots[k] with
               substitutes := bump s.counterMode s.live.slots[k].substitutes 1
               emitted :=
                 if cause = .table ∨ s.routes[k].active.fields.substKind = .blank then s.live.slots[k].emitted
                 else bump s.counterMode s.live.slots[k].emitted 1 } } ∧
       (s.slots[k].current = none → (substitute k cause s).rings = s.rings ∧ (substitute k cause s).contexts = s.contexts) ∧
       (∀ c, s.slots[k].current = some c →
         (substitute k cause s).rings = (letGo c.buffer s).rings ∧
         (substitute k cause s).contexts = (letGo c.buffer s).contexts) ∧
       Keeps [.slots, .rings, .contexts, .live, .latches, .emissions] s (substitute k cause s) ∧
       (s.slots[k].state = .subst → (substitute k cause s).latches = s.latches) ∧
       (s.slots[k].state ≠ .subst →
         (substitute k cause s).latches = (raise .slotSubstitute k.val cause.code s).latches) ∧
       (cause = .table ∨ s.routes[k].active.fields.substKind = .blank → (substitute k cause s).emissions = s.emissions) ∧
       (cause ≠ .table → s.routes[k].active.fields.substKind ≠ .blank →
         (substitute k cause s).emissions[k].record.status = .active ∧
         (substitute k cause s).emissions[k].record.outputFrame = s.slots[k].outputFrame ∧
         (substitute k cause s).emissions[k].record.burstsTotal = s.routes[k].active.fields.fillLength ∧
         (substitute k cause s).emissions[k].record.egressPort = s.routes[k].active.fields.egressPort ∧
         (substitute k cause s).emissions[k].record.outputTag = s.routes[k].active.fields.outputTag))) ∧
  (∀ (k : Fin 16) (cause : SubstCause) (s : State), cause ≠ .table →
     (s.routes[k].active.fields.substKind = .fill →
       (substitute k cause s).emissions =
         s.emissions.set k
           (refill
             { s.emissions[k] with
               record :=
                 { status := .active, sourceKind := some .fill, buffer := none, fillTag := none, baseBlock := none,
                   lastWords := some 64, fillWord := some s.routes[k].active.fields.fillWord,
                   burstsTotal := s.routes[k].active.fields.fillLength, blocksRequested := 0, burstsSent := 0,
                   outputFrame := s.slots[k].outputFrame, egressPort := s.routes[k].active.fields.egressPort,
                   outputTag := s.routes[k].active.fields.outputTag, isRepeat := false } })) ∧
     (s.routes[k].active.fields.substKind = .ramp →
       (substitute k cause s).emissions =
         s.emissions.set k
           (refill
             { s.emissions[k] with
               record :=
                 { status := .active, sourceKind := some .ramp, buffer := none, fillTag := none, baseBlock := none,
                   lastWords := some 64, fillWord := none,
                   burstsTotal := s.routes[k].active.fields.fillLength, blocksRequested := 0, burstsSent := 0,
                   outputFrame := s.slots[k].outputFrame, egressPort := s.routes[k].active.fields.egressPort,
                   outputTag := s.routes[k].active.fields.outputTag, isRepeat := false } })) ∧
     (s.routes[k].active.fields.substKind ≠ .blank →
       (substitute k cause s).live.slots[k].emitted = bump s.counterMode s.live.slots[k].emitted 1)) ∧
  ((∀ u : EmissionUnit, fifoFill u = u.fifo.length + (if u.readInFlight.isSome then 1 else 0)) ∧
   (∀ u : EmissionUnit, blocksToPlace u = min (8 - fifoFill u) (u.record.burstsTotal - u.record.blocksRequested)) ∧
   (∀ u : EmissionUnit, u.record.status = .active → u.record.sourceKind = some .fill →
     refill u =
       { u with
         fifo := u.fifo ++ (List.range (blocksToPlace u)).map fun j =>
           { position := u.record.blocksRequested + j, words := List.replicate 64 (u.record.fillWord.getD 0),
             mediaError := false, owner := .activeEmission, state := .held }
         record := { u.record with blocksRequested := u.record.blocksRequested + blocksToPlace u } }) ∧
   (∀ u : EmissionUnit, u.record.status = .active → u.record.sourceKind = some .ramp →
     refill u =
       { u with
         fifo := u.fifo ++ (List.range (blocksToPlace u)).map fun j =>
           { position := u.record.blocksRequested + j
             words := (List.range 64).map fun w => BitVec.ofNat 32 (64 * (u.record.blocksRequested + j) + w)
             mediaError := false, owner := .activeEmission, state := .held }
         record := { u.record with blocksRequested := u.record.blocksRequested + blocksToPlace u } }) ∧
   (∀ u : EmissionUnit,
     u.record.status ≠ .active ∨ (u.record.sourceKind ≠ some .fill ∧ u.record.sourceKind ≠ some .ramp) → refill u = u))

/-- R90 to R98: the choice, case by case in the order of the table. A HOLDING slot whose hold timer is 0 is left to HOLD_EXPIRED (the
model's choice, log entry 5); that a parity failure decides first is its inference (log entry 16). R91: what going to OFF leaves. -/
def Obligations.SlotChoice : Prop :=
  (∀ (k : Fin 16) (s : State),
     (choose k true s = substitute k .table s) ∧
     (s.routes[k].active.fields.enabled = false → choose k false s = goOff k s) ∧
     (s.routes[k].active.fields.enabled = true → s.faults.mode = .safe → choose k false s = substitute k .safe s) ∧
     (s.routes[k].active.fields.enabled = true → s.faults.mode = .normal → ∀ n : Fin 32,
       s.routes[k].active.fields.stream = n →
       (s.contexts[n].state = .off ∨ s.contexts[n].state = .closing → choose k false s = substitute k .streamOff s) ∧
       (s.contexts[n].state = .locked →
         (∀ i, newestEligible s n s.routes[k].active.fields.delay = some i →
           takesNew s.slots[k].current n ((bufferOf s ⟨n, i⟩).sequence.getD 0) = true →
           choose k false s = takeNew k ⟨n, i⟩ s) ∧
         ((∀ i, newestEligible s n s.routes[k].active.fields.delay = some i →
             takesNew s.slots[k].current n ((bufferOf s ⟨n, i⟩).sequence.getD 0) = false) →
           (s.slots[k].current = none → choose k false s = substitute k .noFrame s) ∧
           (∀ c, s.slots[k].current = some c →
             ((bufferOf s c.buffer).mediaError = true → choose k false s = substitute k .noFrame s) ∧
             ((bufferOf s c.buffer).mediaError = false → choose k false s = repeatFrame k .run 0 c.buffer s)))) ∧
       (s.contexts[n].state = .acquiring ∨ s.contexts[n].state = .lost →
         (s.slots[k].current = none → choose k false s = substitute k .noFrame s) ∧
         (∀ c, s.slots[k].current = some c →
           (s.slots[k].state ≠ .holding → s.routes[k].active.fields.holdLimit = 0 →
             choose k false s = substitute k .holdExpired s) ∧
           (s.slots[k].state ≠ .holding → 0 < s.routes[k].active.fields.holdLimit →
             (bufferOf s c.buffer).mediaError = false →
             choose k false s = repeatFrame k .holding s.routes[k].active.fields.holdLimit c.buffer s) ∧
           (s.slots[k].state ≠ .holding → 0 < s.routes[k].active.fields.holdLimit →
             (bufferOf s c.buffer).mediaError = true → choose k false s = substitute k .noFrame s) ∧
           (s.slots[k].state = .holding → 0 < s.slots[k].holdTimer → (bufferOf s c.buffer).mediaError = false →
             choose k false s = repeatFrame k .holding s.slots[k].holdTimer c.buffer s) ∧
           (s.slots[k].state = .holding → 0 < s.slots[k].holdTimer → (bufferOf s c.buffer).mediaError = true →
             choose k false s = substitute k .noFrame s) ∧
           (s.slots[k].state = .holding → s.slots[k].holdTimer = 0 →
             choose k false s =
               { s with slots := s.slots.set k { s.slots[k] with holdExpiryDue := true } }))))) ∧
  (∀ (k : Fin 16) (s : State),
     ((goOff k s).slots =
       s.slots.set k { s.slots[k] with state := .off, current := none, holdTimer := 0, cause := none }) ∧
     (s.slots[k].current = none → Keeps [.slots] s (goOff k s)) ∧
     (∀ c, s.slots[k].current = some c →
       (goOff k s).rings = (letGo c.buffer s).rings ∧ (goOff k s).contexts = (letGo c.buffer s).contexts ∧
       Keeps [.slots, .rings, .contexts] s (goOff k s)))

/-- R93 to R96, R58, R103: the newest eligible buffer, and what a new frame and a repeat leave in the slot and on the holds. R111, R114:
the whole record of the FRAME emission begun. R58, R78, R52: a let-go of a buffer, which in CLOSING may make the buffer EMPTY and
bring the stream to OFF. -/
def Obligations.FramesShown : Prop :=
  ((∀ (s : State) (n : Fin 32) (delay : Nat),
     (∀ i, newestEligible s n delay = some i →
       i.val < s.entries[n].fields.ringLength ∧ eligible s.reference.tickNumber delay s.rings[n][i] = true ∧
       ∀ j : Fin 8, j.val < s.entries[n].fields.ringLength → eligible s.reference.tickNumber delay s.rings[n][j] = true →
         (s.contexts[n].sequenceCounter - s.rings[n][i].sequence.getD 0).toNat ≤
           (s.contexts[n].sequenceCounter - s.rings[n][j].sequence.getD 0).toNat) ∧
     (newestEligible s n delay = none ↔
       ∀ j : Fin 8, j.val < s.entries[n].fields.ringLength → eligible s.reference.tickNumber delay s.rings[n][j] = false) ∧
     (∀ b : Buffer, eligible s.reference.tickNumber delay b = true ↔
       (b.state = .ready ∨ b.state = .shown) ∧ b.mediaError = false ∧
         delay < (s.reference.tickNumber - b.stamp.getD 0).toNat)) ∧
   (∀ (k : Fin 16) (b : BufferName) (s : State),
     (takeNew k b s).slots =
       s.slots.set k
         { s.slots[k] with
           state := .run, current := some { buffer := b, sequence := (bufferOf s b).sequence.getD 0 }, holdTimer := 0,
           cause := none, outputFrame := s.slots[k].outputFrame + 1#16 } ∧
     (takeNew k b s).live =
       { s.live with
         slots := s.live.slots.set k
           { s.live.slots[k] with
             emitted := bump s.counterMode s.live.slots[k].emitted 1
             skips :=
               bump s.counterMode s.live.slots[k].skips
                 (skipsOf s.slots[k].current b.stream ((bufferOf s b).sequence.getD 0)) } } ∧
     Keeps [.slots, .live, .emissions, .rings, .contexts] s (takeNew k b s) ∧
     (s.slots[k].current = none →
       (takeNew k b s).contexts = s.contexts ∧
       (takeNew k b s).rings =
         s.rings.set b.stream
           (s.rings[b.stream].set b.ring
             { bufferOf s b with
               holdCount := (bufferOf s b).holdCount + 1
               state := if (bufferOf s b).state = .ready then .shown else (bufferOf s b).state })) ∧
     (∀ c, s.slots[k].current = some c →
       (takeNew k b s).contexts = (letGo c.buffer s).contexts ∧
       (takeNew k b s).rings =
         (letGo c.buffer s).rings.set b.stream
           ((letGo c.buffer s).rings[b.stream].set b.ring
             { bufferOf (letGo c.buffer s) b with
               holdCount := (bufferOf (letGo c.buffer s) b).holdCount + 1
               state :=
                 if (bufferOf (letGo c.buffer s) b).state = .ready then .shown
                 else (bufferOf (letGo c.buffer s) b).state }) ∧
       (c.buffer ≠ b →
         bufferOf (takeNew k b s) b =
           { bufferOf s b with
             holdCount := (bufferOf s b).holdCount + 1
             state := if (bufferOf s b).state = .ready then .shown else (bufferOf s b).state } ∧
         bufferOf (takeNew k b s) c.buffer = bufferOf (letGo c.buffer s) c.buffer ∧
         (bufferOf (takeNew k b s) c.buffer).holdCount = (bufferOf s c.buffer).holdCount - 1))) ∧
   (∀ (k : Fin 16) (st : SlotState) (timer : Nat) (b : BufferName) (s : State),
     (repeatFrame k st timer b s).slots =
       s.slots.set k
         { s.slots[k] with state := st, holdTimer := timer, outputFrame := s.slots[k].outputFrame + 1#16 } ∧
     (repeatFrame k st timer b s).live =
       { s.live with
         slots := s.live.slots.set k
           { s.live.slots[k] with
             repeats := bump s.counterMode s.live.slots[k].repeats 1
             emitted := bump s.counterMode s.live.slots[k].emitted 1 } } ∧
     Keeps [.slots, .live, .emissions] s (repeatFrame k st timer b s) ∧
     (repeatFrame k st timer b s).emissions[k].record.isRepeat = true ∧
     (repeatFrame k st timer b s).emissions[k].record.outputFrame = s.slots[k].outputFrame) ∧
   (∀ (current : CurrentFrame) (n : Fin 32) (sequence : BitVec 32),
     (takesNew none n sequence = true) ∧
     (takesNew (some current) n sequence = true ↔
       current.buffer.stream ≠ n ∨
         (1 ≤ (sequence - current.sequence).toNat ∧ (sequence - current.sequence).toNat < 2 ^ 31)) ∧
     (skipsOf none n sequence = 0) ∧
     (skipsOf (some current) n sequence =
       if current.buffer.stream = n then (sequence - current.sequence - 1#32).toNat else 0))) ∧
  ((∀ (k : Fin 16) (b : BufferName) (s : State), s.contexts[b.stream].state ≠ .closing →
     (takeNew k b s).emissions =
       s.emissions.set k
         { s.emissions[k] with
           record :=
             { status := .active, sourceKind := some .frame, buffer := some b, fillTag := some (bufferOf s b).fillTag,
               baseBlock := some (s.entries[b.stream].fields.regionBase + b.ring.val * s.entries[b.stream].fields.bufferSize),
               lastWords := (bufferOf s b).lastWords, fillWord := none, burstsTotal := (bufferOf s b).burstCount.getD 0,
               blocksRequested := 0, burstsSent := 0, outputFrame := s.slots[k].outputFrame,
               egressPort := s.routes[k].active.fields.egressPort, outputTag := s.routes[k].active.fields.outputTag,
               isRepeat := false } }) ∧
   (∀ (k : Fin 16) (st : SlotState) (timer : Nat) (b : BufferName) (s : State),
     (repeatFrame k st timer b s).emissions =
       s.emissions.set k
         { s.emissions[k] with
           record :=
             { status := .active, sourceKind := some .frame, buffer := some b, fillTag := some (bufferOf s b).fillTag,
               baseBlock := some (s.entries[b.stream].fields.regionBase + b.ring.val * s.entries[b.stream].fields.bufferSize),
               lastWords := (bufferOf s b).lastWords, fillWord := none, burstsTotal := (bufferOf s b).burstCount.getD 0,
               blocksRequested := 0, burstsSent := 0, outputFrame := s.slots[k].outputFrame,
               egressPort := s.routes[k].active.fields.egressPort, outputTag := s.routes[k].active.fields.outputTag,
               isRepeat := true } })) ∧
  ((∀ (b : BufferName) (s : State),
     (s.contexts[b.stream].state ≠ .closing ∨ 1 < (bufferOf s b).holdCount →
       letGo b s =
         { s with
           rings := s.rings.set b.stream
             (s.rings[b.stream].set b.ring { bufferOf s b with holdCount := (bufferOf s b).holdCount - 1 }) }) ∧
     (s.contexts[b.stream].state = .closing → (bufferOf s b).holdCount ≤ 1 →
       letGo b s =
         { s with
           rings := s.rings.set b.stream
             (s.rings[b.stream].set b.ring { emptied (bufferOf s b) with holdCount := 0 })
           contexts := s.contexts.set b.stream
             { s.contexts[b.stream] with
               state :=
                 if s.contexts[b.stream].writesOutstanding = 0 ∧
                     (∀ i : Fin 8, i ≠ b.ring → s.rings[b.stream][i].holdCount = 0) then .off
                 else .closing } })) ∧
   (∀ (n : Fin 32) (s : State),
     settleClosing n s =
       { s with
         contexts := s.contexts.set n
           { s.contexts[n] with
             state :=
               if s.contexts[n].state = .closing ∧ s.contexts[n].writesOutstanding = 0 ∧
                   (∀ i : Fin 8, s.rings[n][i].holdCount = 0) then .off
               else s.contexts[n].state } }) ∧
   (∀ b : Buffer, emptied b =
     { b with
       state := .empty, sourceFrame := none, nextIndex := none, lastWords := none, burstCount := none, sequence := none,
       stamp := none, mediaError := false }))

/-- R87 to R89, R122 to R124, R126: a slot's work at a tick in its order: adoption, the late abort, the parity of the active entry, the
choice with the emission it begins, and the hold timer. At the late abort the HELD entries leave, those IN_TRANSMISSION stay and
with a read in flight pass to the cut emission, and an abort record already present stays. A pending entry or an active one that
fails its parity makes the choice of this tick SUBST with cause table; that it decides before R90 is the model's inference (log
entry 16). A hold still due to expire is finished first (log entry 5). -/
def Obligations.SlotBeforeChoice : Prop :=
  ∀ (k : Fin 16) (s : State),
    (s.slots[k].holdExpiryDue = false → s.routes[k].pending = none → s.routes[k].active.parityGood = true →
      s.emissions[k].record.status ≠ .active → slotWork k s = countDownHold k (choose k false s)) ∧
    (s.slots[k].holdExpiryDue = false →
      slotWork k s =
        countDownHold k
          (choose k (adoptionFails s k || activeFails (cutIfLate k (adoptPending k s)) k)
            (checkActive k (cutIfLate k (adoptPending k s))))) ∧
    (s.slots[k].holdExpiryDue = true →
      slotWork k s = slotWork k (substitute k .holdExpired { s with slots := s.slots.set k { s.slots[k] with holdExpiryDue := false } })) ∧
    (adoptionFails s k = true ↔ ∃ e, s.routes[k].pending = some e ∧ e.parityGood = false) ∧
    (activeFails s k = true ↔ s.routes[k].active.fields.enabled = true ∧ s.routes[k].active.parityGood = false) ∧
    (activeFails s k = true →
      checkActive k s =
        majorFault .tableParity .routeTable k.val none
          { s with routes := s.routes.set k { active := State.resetRouteEntry, pending := none } }) ∧
    (activeFails s k = false → checkActive k s = s) ∧
    (s.routes[k].pending = none → adoptPending k s = s) ∧
    (∀ e, s.routes[k].pending = some e → e.parityGood = true →
      adoptPending k s =
        { s with
          routes := s.routes.set k { active := { fields := e.fields, parityGood := true }, pending := none }
          slots := s.slots.set k
            (if s.slots[k].state = .off ∧ e.fields.enabled = true then { s.slots[k] with outputFrame := 0 }
             else s.slots[k]) }) ∧
    (∀ e, s.routes[k].pending = some e → e.parityGood = false →
      adoptPending k s =
        majorFault .tableParity .routeTable k.val none
          { s with routes := s.routes.set k { active := State.resetRouteEntry, pending := none } }) ∧
    (s.emissions[k].record.status ≠ .active → cutIfLate k s = s) ∧
    (s.emissions[k].record.status = .active →
      (cutIfLate k s).emissions[k].record.status = .cut ∧
      (∀ e ∈ (cutIfLate k s).emissions[k].fifo, e.state ≠ .held ∧ e.owner = .cutEmission) ∧
      (s.emissions[k].aborts[s.emissions[k].record.egressPort] = none →
        (cutIfLate k s).emissions[k].aborts[s.emissions[k].record.egressPort] = some
          { outputTag := s.emissions[k].record.outputTag, outputFrame := s.emissions[k].record.outputFrame,
            index := s.emissions[k].record.burstsSent }) ∧
      ((cutIfLate k s).emissions =
        s.emissions.set k
          { record := { s.emissions[k].record with status := .cut }
            fifo := (s.emissions[k].fifo.filter fun e => e.state != .held).map fun e => { e with owner := .cutEmission }
            readInFlight := s.emissions[k].readInFlight.map fun r => { r with owner := .cutEmission }
            aborts := (cutIfLate k s).emissions[k].aborts }) ∧
      (∀ a, s.emissions[k].aborts[s.emissions[k].record.egressPort] = some a →
        (cutIfLate k s).emissions[k].aborts = s.emissions[k].aborts) ∧
      (∀ q : Fin 4, q ≠ s.emissions[k].record.egressPort →
        (cutIfLate k s).emissions[k].aborts[q] = s.emissions[k].aborts[q]) ∧
      Keeps [.emissions, .live, .latches] s (cutIfLate k s) ∧
      (cutIfLate k s).live =
        { s.live with
          slots := s.live.slots.set k
            { s.live.slots[k] with late := bump s.counterMode s.live.slots[k].late 1 } } ∧
      (cutIfLate k s).latches = (raise .slotLate k.val 0 s).latches) ∧
    (countDownHold k s =
      { s with
        slots := s.slots.set k
          (if s.slots[k].state = .holding then { s.slots[k] with holdTimer := s.slots[k].holdTimer - 1 }
           else s.slots[k]) })

/-! ## The pattern generator and the checker (09) -/

/-- R154, R157 to R160, R165: the generator's rows: a frame start with good parity offers the first burst of the frame, taken at once
where the write queue has room, and a bad parity closes the stream; a waiting burst is taken once the write queue has room; the
burst offered with its COUNT, PN or FILL payload, what follows its taking, and the end of a frame and of a run. That the first burst
of a frame is taken in the frame start's own row is the model's inference (log entry 20, DEDUCED); that a frame start here reads the
P and T in force then (log entry 34), that generator done comes after a TEST cause of the checker in the same taking (log entry 35),
the mark frameStartDue (log entry 5), and that a row which is not due changes nothing (log entry 2), are its choices. -/
def Obligations.GeneratedFrames : Prop :=
  (∀ (n : Fin 32) (s : State), s.resetHeld = none → s.generator.stream = some n →
     (s.generator.state ≠ .running ∨ s.generator.frameStartDue = false → exec .generatorFrameStart s = .next s) ∧
     (s.generator.state = .running → s.generator.frameStartDue = true →
       (s.entries[n].parityGood = true →
         exec .generatorFrameStart s = .next
           (takeGenerated
             (offerBurst n
               { s with
                 generator :=
                   { s.generator with
                     inProgress := true, burstsTaken := 0, ticksSinceStart := some 0, frameStartDue := false,
                     nextFrameNumber := s.generator.nextFrameNumber + 1#16 } }))) ∧
       (s.entries[n].parityGood = false →
         exec .generatorFrameStart s = .next
           (entryParityFailure n { s with generator := { s.generator with frameStartDue := false } }))) ∧
     (s.generator.waiting = none ∨ 16 ≤ s.writeQueue.length → exec .generatorBurstTaken s = .next s) ∧
     (∀ b, s.generator.waiting = some b → s.writeQueue.length < 16 →
       exec .generatorBurstTaken s = .next (afterTaking n (acceptBurst n b s)) ∧
       takeGenerated s = afterTaking n (acceptBurst n b s)) ∧
     (s.generator.waiting = none ∨ 16 ≤ s.writeQueue.length → takeGenerated s = s)) ∧
  ((∀ (n : Fin 32) (s : State),
     (offerBurst n s =
       { s with
         generator :=
           { s.generator with
             waiting := some
               { tag := BitVec.ofNat 6 n.val
                 kind :=
                   if s.generator.frameLength = 1 then .singleBurst
                   else if s.generator.burstsTaken = 0 then .startBurst
                   else if s.generator.burstsTaken + 1 = s.generator.frameLength then .endBurst
                   else .bodyBurst
                 repeatFlag := false, substFlag := false, mediaErrFlag := false
                 index := s.generator.burstsTaken
                 frameNumber := s.generator.nextFrameNumber - 1#16
                 payload := drawnWords s.generator }
             countValue := if s.generator.pattern = .count then s.generator.countValue + 64#32 else s.generator.countValue
             pnRegister :=
               if s.generator.pattern = .pn then (fun r => (pnWord r).2)^[64] s.generator.pnRegister
               else s.generator.pnRegister } }) ∧
     (s.generator.pattern = .count →
       drawnWords s.generator = (List.range 64).map (fun i => s.generator.countValue + BitVec.ofNat 32 i)) ∧
     (s.generator.pattern = .fill → drawnWords s.generator = List.replicate 64 s.generator.fillWord) ∧
     (s.generator.burstsTaken + 1 < s.generator.frameLength →
       afterTaking n s =
         offerBurst n { s with generator := { s.generator with burstsTaken := s.generator.burstsTaken + 1 } }) ∧
     (s.generator.frameLength ≤ s.generator.burstsTaken + 1 →
       let ended : Generator :=
         { s.generator with
           burstsTaken := s.generator.burstsTaken + 1, inProgress := false, waiting := none,
           framesDone := s.generator.framesDone + 1#32 }
       (s.generator.frameCount ≠ 0 → (s.generator.framesDone + 1#32).toNat = s.generator.frameCount →
         (afterTaking n s).generator = { ended with state := .stopped } ∧
         (s.generator.stream = some n → afterTaking n s = raise .test n.val 0 { s with generator := { ended with state := .stopped } })) ∧
       (s.generator.frameCount = 0 ∨ (s.generator.framesDone + 1#32).toNat ≠ s.generator.frameCount →
         afterTaking n s =
           { s with generator := { ended with state := if s.generator.stopRequested then .stopped else s.generator.state } }))) ∧
   (∀ r : BitVec 23, pnStep r =
     (r <<< 1) ||| (if (r.getLsbD 22 ^^ r.getLsbD 17) = true then 1#23 else 0#23)) ∧
   (∀ r : BitVec 23, (pnWord r).2 = pnStep^[32] r ∧
     ∀ i, i < 32 → (pnWord r).1.getLsbD (31 - i) = (pnStep^[i + 1] r).getLsbD 0) ∧
   (∀ s : State, s.generator.pattern = .pn →
     drawnWords s.generator =
       (List.range 64).map (fun i => (pnWord ((fun r => (pnWord r).2)^[i] s.generator.pnRegister)).1)))

/-- R154, R162, R163, R165: the checker: how a word seeds it, the word it predicts and how it advances, for COUNT, PN and FILL; the
judgement of a word in IDLE, SEEKING and SYNCED with the runs of 16 and 8 and restart at frame; the taps, which pass a burst's words
in order; FRAMES at the end of a frame; and the TEST events. That a FILL checker's expectation stays as it is is the model's
inference (log entry 17, DEDUCED). -/
def Obligations.CheckerJudgesWords : Prop :=
  (∀ (mode : CounterMode) (c : Checker) (w : Word),
     (c.state = .idle → ∀ first, judgeWord mode first c w = (c, none)) ∧
     (c.state = .seeking → c.expectation = none → c.pattern = .count →
       judgeWord mode false c w = ({ c with expectation := some (.count (w + 1#32)), matchRun := 0 }, none)) ∧
     (c.state = .seeking → c.expectation = some (.count w) → c.pattern = .count →
       (c.matchRun + 1 < 16 →
         judgeWord mode false c w =
           ({ c with expectation := some (.count (w + 1#32)), matchRun := c.matchRun + 1 }, none)) ∧
       (c.matchRun = 15 →
         judgeWord mode false c w =
           ({ c with expectation := some (.count (w + 1#32)), matchRun := 16, state := .synced, mismatchRun := 0 },
             some 2))) ∧
     (c.state = .synced → c.expectation = some (.count w) → c.pattern = .count →
       judgeWord mode false c w =
         ({ c with words := bump mode c.words 1, expectation := some (.count (w + 1#32)), mismatchRun := 0 }, none)) ∧
     (∀ v, c.state = .synced → c.expectation = some (.count v) → c.pattern = .count → w ≠ v →
       (c.mismatchRun < 7 →
         judgeWord mode false c w =
           ({ c with
               words := bump mode c.words 1, errors := bump mode c.errors 1, expectation := some (.count (v + 1#32)),
               mismatchRun := c.mismatchRun + 1 }, none)) ∧
       (c.mismatchRun = 7 →
         judgeWord mode false c w =
           ({ c with
               words := bump mode c.words 1, errors := bump mode c.errors 1, expectation := none, mismatchRun := 8,
               state := .seeking, matchRun := 0 }, some 3))) ∧
     (c.state = .synced → c.restartAtFrame = true → c.pattern = .count →
       judgeWord mode true c w = ({ c with expectation := some (.count (w + 1#32)) }, none))) ∧
  ((∀ (c : Checker) (w : Word),
     seeded c w =
       { c with
         expectation :=
           match c.pattern with
           | .count => some (.count (w + 1#32))
           | .pn => some (.pn (w.extractLsb' 0 23))
           | .fill => c.expectation } ∧
     advanced c =
       { c with
         expectation :=
           match c.expectation with
           | some (.count v) => some (.count (v + 1#32))
           | some (.pn r) => some (.pn (pnWord r).2)
           | none => none } ∧
     (c.pattern = .fill → predicted c = some c.fillWord) ∧
     (c.pattern ≠ .fill → c.expectation = none → predicted c = none) ∧
     (∀ v, c.pattern ≠ .fill → c.expectation = some (.count v) → predicted c = some v) ∧
     (∀ r, c.pattern ≠ .fill → c.expectation = some (.pn r) → predicted c = some (pnWord r).1)) ∧
   (∀ (mode : CounterMode) (first : Bool) (c : Checker) (w : Word), (first && c.restartAtFrame) = false →
     (c.state = .seeking →
       (predicted c ≠ some w → judgeWord mode first c w = ({ seeded c w with matchRun := 0 }, none)) ∧
       (predicted c = some w → c.matchRun ≠ 15 →
         judgeWord mode first c w = ({ advanced c with matchRun := c.matchRun + 1 }, none)) ∧
       (predicted c = some w → c.matchRun = 15 →
         judgeWord mode first c w = ({ advanced c with matchRun := 16, state := .synced, mismatchRun := 0 }, some 2))) ∧
     (c.state = .synced →
       (predicted c = some w →
         judgeWord mode first c w = ({ advanced c with words := bump mode c.words 1, mismatchRun := 0 }, none)) ∧
       (predicted c ≠ some w → c.mismatchRun ≠ 7 →
         judgeWord mode first c w =
           ({ advanced c with
               words := bump mode c.words 1, errors := bump mode c.errors 1, mismatchRun := c.mismatchRun + 1 }, none)) ∧
       (predicted c ≠ some w → c.mismatchRun = 7 →
         judgeWord mode first c w =
           ({ c with
               words := bump mode c.words 1, errors := bump mode c.errors 1, mismatchRun := 8, state := .seeking,
               expectation := none, matchRun := 0 }, some 3)))) ∧
   (∀ (mode : CounterMode) (c : Checker) (w : Word), c.restartAtFrame = true →
     (c.state = .seeking → judgeWord mode true c w = ({ seeded c w with matchRun := 0 }, none)) ∧
     (c.state = .synced → judgeWord mode true c w = (seeded c w, none)))) ∧
  ((∀ (first : Bool) (w : Word) (s : State),
     ((judgeWord s.counterMode first s.checker w).2 = none →
       passWord first w s = { s with checker := (judgeWord s.counterMode first s.checker w).1 }) ∧
     (∀ cause, (judgeWord s.counterMode first s.checker w).2 = some cause →
       passWord first w s =
         raise .test s.checker.tapIndex cause { s with checker := (judgeWord s.counterMode first s.checker w).1 })) ∧
   (∀ (kind : BurstKind) (w : Word) (rest : List Word) (s : State),
     passBurst kind [] s = s ∧
     (let judged := rest.foldl (fun t v => passWord false v t)
        (passWord (decide (kind = .startBurst ∨ kind = .singleBurst)) w s)
      (kind = .endBurst ∨ kind = .singleBurst → judged.checker.state = .synced →
        passBurst kind (w :: rest) s =
          { judged with checker := { judged.checker with frames := bump judged.counterMode judged.checker.frames 1 } }) ∧
      (kind = .endBurst ∨ kind = .singleBurst → judged.checker.state ≠ .synced → passBurst kind (w :: rest) s = judged) ∧
      (kind ≠ .endBurst → kind ≠ .singleBurst → passBurst kind (w :: rest) s = judged))) ∧
   (∀ (n : Fin 32) (k : Fin 16) (kind : BurstKind) (words : List Word) (s : State),
     tapStream n kind words s =
       (if s.checker.tap = .stream ∧ s.checker.tapIndex = n.val then passBurst kind words s else s) ∧
     tapSlot k kind words s = (if s.checker.tap = .slot ∧ s.checker.tapIndex = k.val then passBurst kind words s else s)) ∧
   (∀ (n : Fin 32) (i : Fin 8) (b : Burst) (s : State),
     (b.kind = .bodyBurst ∨ b.kind = .endBurst → fillingBuffer s n = some i →
       continuationFault s.entries[n].fields s.rings[n][i] b = none →
       ∃ u, acceptBurst n b s = tapStream n b.kind b.payload u ∧ Keeps [.contexts, .rings, .writeQueue] s u) ∧
     (beginsFrame b.kind = true → fillingBuffer s n = none → frameStartFault s.entries[n].fields b = none →
       chooseTarget s n = some i →
       ∃ u, ringFrameStart n b s = tapStream n b.kind b.payload u ∧ Keeps [.contexts, .rings, .writeQueue, .live] s u)) ∧
   (∀ (p : Fin 4) (k : Fin 16) (b : Burst) (s : State),
     burstDone p (.slotEntry k) b s = modifyEmission k (blockDone p) (tapSlot k b.kind b.payload s) ∧
     (∀ sending, s.resetHeld = none → s.egress[p].sending = some sending → sending.participant = .slotEntry k →
       exec (.egressBurstCompletion p) s = .next
         (burstDone p (.slotEntry k) sending.burst
           (countEgress p .sentBursts { s with egress := s.egress.set p { s.egress[p] with sending := none } })))))

/-! ## The egress ports (01, 06) -/

/-- R14 to R17, R119 to R121, R123, R182, R185, R187: an IDLE port grants the first participant after its pointer; on an enabled port
the burst is in transmission under the bit order of that moment, on a disabled port it is discarded and its completion takes place,
with ResetPart's reply the management reset; the positions of the slots in the round, and what a grant takes from the slot; the
bursts that emission forms, and the words of their header. That a reply in transmission on another port still keeps its place in the
reply queue is the model's inference (log entry 18, DEDUCED); that a port in SENDING or without a participant changes nothing is its
choice (log entry 2). -/
def Obligations.EgressGranted : Prop :=
  (∀ (p : Fin 4) (s : State), s.resetHeld = none →
     (s.egress[p].sending.isSome = true ∨ nextParticipant s p = none → exec (.egressGrant p) s = .next s) ∧
     (∀ i : Fin 17, nextParticipant s p = some i ↔
       positionReady s p i = true ∧
         ∀ j : Fin 17, (j - (s.egress[p].pointer + 1)).val < (i - (s.egress[p].pointer + 1)).val → positionReady s p j = false) ∧
     (∀ i from_ b, s.egress[p].sending = none → nextParticipant s p = some i → burstAt s p i = some (from_, b) →
       (s.egress[p].enabled = true →
         ∃ t, exec (.egressGrant p) s = .next t ∧
           t.egress = s.egress.set p
             { s.egress[p] with
               pointer := i
               sending := some
                 { participant := from_, bitOrder := s.egress[p].bitOrder, burst := b,
                   checkWord := checkWordOf s.egress[p].bitOrder (headerWords b ++ b.payload) } } ∧
           Keeps [.egress, .emissions] s t ∧
           (∀ k : Fin 16, from_ = .slotAbort k →
             t.emissions = s.emissions.set k
               { s.emissions[k] with aborts := s.emissions[k].aborts.set p none }) ∧
           (∀ k : Fin 16, from_ = .slotEntry k →
             t.emissions = s.emissions.set k { s.emissions[k] with fifo := markTransmission p s.emissions[k].fifo }) ∧
           (from_ = .reply → t.emissions = s.emissions)) ∧
       (s.egress[p].enabled = false →
         exec (.egressGrant p) s = .next
           (burstDone p from_ b (countEgress p .discardedBursts (takeBurst p i s))))) ∧
     (∀ r rest, s.replyQueue = r :: rest →
       burstAt s p 16 = some
         (.reply,
           { tag := 63#6, kind := .replyBurst, repeatFlag := false, substFlag := false, mediaErrFlag := false, index := 0,
             frameNumber := 0#16, payload := replyWords r })) ∧
     (positionReady s p 16 = true ↔
       s.replyPort = p ∧ s.replyQueue ≠ [] ∧
         ∀ q : Fin 4, ∀ t, s.egress[q].sending = some t → t.participant ≠ .reply)) ∧
  ((∀ (p : Fin 4) (k : Fin 16) (s : State),
     (positionReady s p k.castSucc = true ↔ (readyBurst s.emissions[k] k p).isSome = true) ∧
     burstAt s p k.castSucc = readyBurst s.emissions[k] k p ∧
     (∀ a, s.emissions[k].aborts[p] = some a →
       takeBurst p k.castSucc s =
         { s with
           egress := s.egress.set p { s.egress[p] with pointer := k.castSucc }
           emissions := s.emissions.set k { s.emissions[k] with aborts := s.emissions[k].aborts.set p none } }) ∧
     (s.emissions[k].aborts[p] = none →
       takeBurst p k.castSucc s =
         { s with
           egress := s.egress.set p { s.egress[p] with pointer := k.castSucc }
           emissions :=
             s.emissions.set k { s.emissions[k] with fifo := markTransmission p s.emissions[k].fifo } })) ∧
   (∀ (p : Fin 4) (s : State),
     takeBurst p 16 s = { s with egress := s.egress.set p { s.egress[p] with pointer := 16 } }) ∧
   (∀ (p : Fin 4) (before after : List BlockEntry) (e : BlockEntry),
     (∀ x ∈ before, x.state ≠ .held ∨ x.owner ≠ .activeEmission) → e.state = .held → e.owner = .activeEmission →
     markTransmission p (before ++ e :: after) = before ++ { e with state := .inTransmission p } :: after)) ∧
  (∀ (p : Fin 4) (b : Burst) (s : State),
     (∀ k : Fin 16, burstDone p (.slotAbort k) b s = s) ∧
     (∀ r rest, s.replyQueue = r :: rest →
       (r.isResetPart = false → burstDone p .reply b s = { s with replyQueue := rest }) ∧
       (r.isResetPart = true → burstDone p .reply b s = managementReset { s with replyQueue := rest })) ∧
     (∀ k : Fin 16, burstDone p (.slotEntry k) b s =
       modifyEmission k
         (fun u =>
           refill
             { u with
               fifo := u.fifo.filter (fun e => e.state != .inTransmission p)
               record :=
                 if u.fifo.any (fun e => e.state == .inTransmission p && e.owner == .activeEmission) then
                   { u.record with
                     burstsSent := u.record.burstsSent + 1
                     status := if u.record.burstsSent + 1 = u.record.burstsTotal then .finished else u.record.status }
                 else u.record })
         (tapSlot k b.kind b.payload s))) ∧
  ((∀ (u : EmissionUnit) (k : Fin 16) (p : Fin 4),
     (∀ a, u.aborts[p] = some a →
       readyBurst u k p = some
         (.slotAbort k,
           { tag := a.outputTag, kind := .abortBurst, repeatFlag := false, substFlag := false, mediaErrFlag := false,
             index := a.index, frameNumber := a.outputFrame, payload := [] })) ∧
     (∀ e, u.aborts[p] = none → u.record.status = .active → u.record.egressPort = p →
       u.fifo.find? (fun x => x.state == .held && x.owner == .activeEmission) = some e →
       readyBurst u k p = some
         (.slotEntry k,
           { tag := u.record.outputTag
             kind :=
               if u.record.burstsTotal = 1 then .singleBurst
               else if e.position = 0 then .startBurst
               else if e.position + 1 = u.record.burstsTotal then .endBurst
               else .bodyBurst
             repeatFlag := u.record.isRepeat
             substFlag := u.record.sourceKind == some .fill || u.record.sourceKind == some .ramp
             mediaErrFlag := e.mediaError
             index := e.position
             frameNumber := u.record.outputFrame
             payload :=
               e.words.take (if e.position + 1 = u.record.burstsTotal then u.record.lastWords.getD 64 else 64) })) ∧
     (u.aborts[p] = none → u.record.status ≠ .active ∨ u.record.egressPort ≠ p → readyBurst u k p = none)) ∧
   (∀ b : Burst, ∃ w0 w1, headerWords b = [w0, w1] ∧
     w0.extractLsb' 26 6 = b.tag ∧ w0.extractLsb' 22 4 = codeOfKind b.kind ∧
     w0.getLsbD 21 = b.repeatFlag ∧ w0.getLsbD 20 = b.substFlag ∧ w0.getLsbD 19 = b.mediaErrFlag ∧
     w0.extractLsb' 12 7 = BitVec.ofNat 7 b.payload.length ∧ w0.extractLsb' 0 12 = BitVec.ofNat 12 b.index ∧
     w1.extractLsb' 16 16 = b.frameNumber ∧ w1.extractLsb' 0 16 = 0#16))

/-- R16, R121, R123, R182: the completion of a burst: it counts and the port is IDLE; a slot's block leaves its FIFO and its emission
counts it sent; an abort leaves nothing; a reply other than ResetPart's leaves the reply queue. That a port with no burst in
transmission changes nothing is the model's choice (log entry 2). -/
def Obligations.EgressCompleted : Prop :=
  ∀ (p : Fin 4) (s : State), s.resetHeld = none →
    (s.egress[p].sending = none → exec (.egressBurstCompletion p) s = .next s) ∧
    (∀ sending, s.egress[p].sending = some sending →
      (∀ k : Fin 16, sending.participant = .slotAbort k →
        exec (.egressBurstCompletion p) s = .next
          (countEgress p .sentBursts { s with egress := s.egress.set p { s.egress[p] with sending := none } })) ∧
      (∀ r rest, sending.participant = .reply → s.replyQueue = r :: rest → r.isResetPart = false →
        exec (.egressBurstCompletion p) s = .next
          { countEgress p .sentBursts { s with egress := s.egress.set p { s.egress[p] with sending := none } } with
            replyQueue := rest }) ∧
      (∀ k : Fin 16, sending.participant = .slotEntry k →
        ∃ t, exec (.egressBurstCompletion p) s = .next t ∧
          t.egress = s.egress.set p { s.egress[p] with sending := none } ∧
          t.live =
            { s.live with
              egress := s.live.egress.set p
                { s.live.egress[p] with sentBursts := bump s.counterMode s.live.egress[p].sentBursts 1 } } ∧
          t.emissions = s.emissions.set k
            (refill
              { s.emissions[k] with
                fifo := s.emissions[k].fifo.filter (fun e => e.state != .inTransmission p)
                record :=
                  if s.emissions[k].fifo.any (fun e => e.state == .inTransmission p && e.owner == .activeEmission) then
                    { s.emissions[k].record with
                      burstsSent := s.emissions[k].record.burstsSent + 1
                      status :=
                        if s.emissions[k].record.burstsSent + 1 = s.emissions[k].record.burstsTotal then .finished
                        else s.emissions[k].record.status }
                  else s.emissions[k].record }) ∧
          Keeps [.egress, .live, .emissions, .checker, .latches] s t) ∧
      exec (.egressBurstCompletion p) s = .next
        (burstDone p sending.participant sending.burst
          (countEgress p .sentBursts { s with egress := s.egress.set p { s.egress[p] with sending := none } })))

/-! ## Requests and replies (11, 12) -/

/-- R188, 12.3, 12.4, 12.5: the request of each code and the operands it takes, the layout of a reply record and of the status words,
and the codes of the enumerated values; the zero words of an absent abort record are the model's inference (log entry 19, DEDUCED).
R182, R185: a reply joins the tail of the reply queue where it has a place, else the executor waits with it, and a freed place lets
the waiting reply in; the reply to ResetPart leaves the executor EXECUTING. R178, R179: the form checks, the BAD_REQUEST reply, and
when a request's row is not due: then it changes nothing (log entry 2). -/
def Obligations.RequestsAndReplies : Prop :=
  ((∀ code : BitVec 8, fixedOperandCount code =
     [none, some 0, some 0, some 0, some 21, some 1, some 14, some 1, some 1, some 1, some 1, some 1, some 10, some 1, some 0,
      some 5, some 0, some 4, some 2, none, some 1, some 2, some 1, some 0, some 0, some 1, some 1, some 0, some 0, some 6,
      some 0, some 5, some 1, some 0].getD code.toNat none) ∧
   (∀ code : BitVec 8, rowOfCode code =
     [none, some .readIdentity, some .resetPart, some .readPorts, some .writePorts, some .readStreamEntry, some .writeStreamEntry,
      some .enableStream, some .disableStream, some .readStreamStatus, some .readRingStatus, some .readRouteEntry,
      some .writeRouteEntry, some .readSlotStatus, some .readReference, some .setReference, some .readArbitration,
      some .setArbitration, some .memoryRead, some .memoryWrite, some .snapshotCounters, some .readCounters,
      some .setCounterMode, some .readEvent, some .readEventState, some .clearEvents, some .writeEventMask,
      some .readFaultRecord, some .clearFaults, some .generatorStart, some .generatorStop, some .checkerSetup,
      some .checkerSnapshot, some .readTestStatus].getD code.toNat none) ∧
   (∀ p : List Word, requestTag p = (p.getD 0 0).extractLsb' 24 8 ∧ requestCode p = (p.getD 0 0).extractLsb' 16 8) ∧
   (∀ r : Reply, ∃ w0 w1, replyWords r = w0 :: w1 :: r.results ∧
     w0.extractLsb' 24 8 = r.tag ∧ w0.extractLsb' 16 8 = r.code ∧
     w0.extractLsb' 12 4 =
       (match r.status with
        | .ok => 0#4
        | .badRequest => 1#4
        | .badArgument => 2#4
        | .refused => 3#4
        | .mediaError => 4#4) ∧
     w0.extractLsb' 4 8 = BitVec.ofNat 8 r.reason ∧ w0.extractLsb' 0 4 = 0#4 ∧
     w1.extractLsb' 0 6 = BitVec.ofNat 6 r.results.length ∧ w1.extractLsb' 6 26 = 0#26)) ∧
  (([BitOrder.lsbFirst, .msbFirst].map BitOrder.code = [0, 1] ∧ [WordOrder.normal, .swapped].map WordOrder.code = [0, 1] ∧
     (∀ p : Fin 4, StreamSource.code (.ingress p) = p.val) ∧ StreamSource.code .generator = 4) ∧
   ([StreamState.off, .acquiring, .locked, .lost, .closing].map StreamState.code = [0, 1, 2, 3, 4] ∧
     [RateClass.fast, .matched, .slow].map RateClass.code = [0, 1, 2] ∧
     [BufferState.empty, .filling, .sealing, .ready, .shown].map BufferState.code = [0, 1, 2, 3, 4]) ∧
   ([SlotState.off, .run, .holding, .subst].map SlotState.code = [0, 1, 2, 3] ∧
     [SubstKind.fill, .ramp, .blank].map SubstKind.code = [0, 1, 2] ∧
     [SubstCause.noFrame, .holdExpired, .streamOff, .safe, .table].map SubstCause.code = [0, 1, 2, 3, 4] ∧
     [EmissionStatus.none, .active, .finished, .cut].map EmissionStatus.code = [0, 1, 2, 3] ∧
     [SourceKind.frame, .fill, .ramp].map SourceKind.code = [0, 1, 2]) ∧
   ([RefMode.free, .follow].map RefMode.code = [0, 1] ∧
     [RefState.free, .tracking, .coasting, .searching].map RefState.code = [0, 1, 2, 3] ∧
     [ArbOrder.egressIngressMgmt, .egressMgmtIngress, .ingressEgressMgmt, .ingressMgmtEgress, .mgmtEgressIngress,
       .mgmtIngressEgress].map ArbOrder.code = [0, 1, 2, 3, 4, 5] ∧
     Access.code .ingress = 0 ∧ (∀ k : Fin 16, Access.code (.egress k) = 1) ∧ Access.code .mgmt = 2 ∧ Access.code .refresh = 3) ∧
   ([FaultKind.corrected, .uncorrectable, .tableParity, .refreshOverdue].map FaultKind.code = [0, 1, 2, 3] ∧
     [FaultSource.slotReader, .writeQueue, .management, .streamTable, .routeTable, .refresh].map FaultSource.code =
       [0, 1, 2, 3, 4, 5] ∧
     [PartMode.normal, .safe].map PartMode.code = [0, 1] ∧
     [ResetCause.powerOn, .pin, .management].map ResetCause.code = [0, 1, 2]) ∧
   ([GeneratorState.stopped, .running].map GeneratorState.code = [0, 1] ∧
     [CheckerState.idle, .seeking, .synced].map CheckerState.code = [0, 1, 2] ∧
     [Pattern.count, .pn, .fill].map Pattern.code = [0, 1, 2] ∧ [Tap.none, .stream, .slot].map Tap.code = [0, 1, 2])) ∧
  ((∀ b : Buffer, ∃ w0 w1 w2, bufferWords b = [w0, w1, w2, b.sequence.getD 0, b.stamp.getD 0] ∧
     w0.extractLsb' 29 3 = BitVec.ofNat 3 b.state.code ∧ w0.getLsbD 28 = b.mediaError ∧
     w0.extractLsb' 23 5 = BitVec.ofNat 5 b.holdCount ∧ w0.getLsbD 17 = b.sourceFrame.isSome ∧
     w0.getLsbD 18 = b.nextIndex.isSome ∧ w0.getLsbD 19 = b.lastWords.isSome ∧ w0.getLsbD 20 = b.burstCount.isSome ∧
     w0.getLsbD 21 = b.sequence.isSome ∧ w0.getLsbD 22 = b.stamp.isSome ∧ w0.extractLsb' 8 9 = 0#9 ∧
     w0.extractLsb' 0 8 = b.fillTag ∧
     w1.extractLsb' 16 16 = b.sourceFrame.getD 0 ∧ w1.extractLsb' 3 13 = BitVec.ofNat 13 (b.nextIndex.getD 0) ∧
     w1.extractLsb' 0 3 = 0#3 ∧
     w2.extractLsb' 19 13 = BitVec.ofNat 13 (b.burstCount.getD 0) ∧
     w2.extractLsb' 12 7 = BitVec.ofNat 7 (b.lastWords.getD 0) ∧ w2.extractLsb' 0 12 = 0#12) ∧
   (∀ (c : SlotContext) (r : EmissionRecord),
     slotPresence c r =
       presence
         [c.current.isSome, c.current.isSome, c.current.isSome, c.cause.isSome, r.sourceKind.isSome, r.buffer.isSome,
          r.buffer.isSome, r.fillTag.isSome, r.baseBlock.isSome, r.lastWords.isSome, r.fillWord.isSome] ∧
     slotContextWords c =
       [num c.state.code, optNum (c.current.map fun f => f.buffer.stream.val),
        optNum (c.current.map fun f => f.buffer.ring.val), optField (c.current.map fun f => f.sequence), num c.holdTimer,
        field c.outputFrame, optNum (c.cause.map SubstCause.code)] ∧
     recordWords r =
       [num r.status.code, optNum (r.sourceKind.map SourceKind.code), optNum (r.buffer.map fun b => b.stream.val),
        optNum (r.buffer.map fun b => b.ring.val), optField r.fillTag, optNum r.baseBlock, optNum r.lastWords,
        optField r.fillWord, num r.burstsTotal, num r.blocksRequested, num r.burstsSent, field r.outputFrame,
        num r.egressPort.val, field r.outputTag, flag r.isRepeat]) ∧
   (∀ u : EmissionUnit, fifoWords u =
     [num (fifoFill u), num (u.fifo.filter fun e => e.state == .held).length, flag u.readInFlight.isSome,
      flag (u.fifo.any fun e => e.state != .held)]) ∧
   (abortWords none = [0#32, 0#32, 0#32, 0#32] ∧
     ∀ a : AbortRecord, abortWords (some a) = [1#32, field a.outputTag, field a.outputFrame, num a.index]) ∧
   (∀ (n : Nat) (w : Nat) (v : BitVec w), optNum (some n) = num n ∧ optNum none = 0#32 ∧ optField (some v) = field v ∧
     optField (none : Option (BitVec w)) = 0#32)) ∧
  (∀ (r : Reply) (s : State),
     (s.replyQueue.length < 4 → r.isResetPart = false →
       offerReply r s = { s with replyQueue := s.replyQueue ++ [r], executor := .idle }) ∧
     (s.replyQueue.length < 4 → r.isResetPart = true →
       offerReply r s = { s with replyQueue := s.replyQueue ++ [r], executor := .executing }) ∧
     (4 ≤ s.replyQueue.length → offerReply r s = { s with executor := .waitReplySpace r }) ∧
     (r.isResetPart = true ↔ r.code = 0x02#8 ∧ r.status = .ok) ∧
     (s.resetHeld = none → s.executor = .waitReplySpace r →
       (s.replyQueue.length < 4 → r.isResetPart = false →
         exec .replySpaceFreed s = .next { s with replyQueue := s.replyQueue ++ [r], executor := .idle }) ∧
       (s.replyQueue.length < 4 → r.isResetPart = true →
         exec .replySpaceFreed s = .next { s with replyQueue := s.replyQueue ++ [r], executor := .executing }) ∧
       (4 ≤ s.replyQueue.length → exec .replySpaceFreed s = .next s)) ∧
     (s.resetHeld = none → (∀ q, s.executor ≠ .waitReplySpace q) → exec .replySpaceFreed s = .next s)) ∧
  ((∀ (p : List Word) (rest : List (List Word)) (s : State), s.resetHeld = none → s.executor = .idle →
     s.requestQueue = p :: rest →
     (formGood p = false →
       exec .badRequest s = .next
         (offerReply { tag := requestTag p, code := requestCode p, status := .badRequest, reason := 0, results := [] }
           { s with requestQueue := rest, executor := .executing })) ∧
     (formGood p = true → exec .badRequest s = .next s)) ∧
   (∀ p : List Word, formGood p = true ↔
     ∃ w0 w1 operands, p = w0 :: w1 :: operands ∧
       (if w0.extractLsb' 16 8 = 0x13#8 then
         2 ≤ (w1.extractLsb' 0 6).toNat ∧ (w1.extractLsb' 0 6).toNat ≤ 62 ∧
           (operands.getD 1 0).toNat + 2 = (w1.extractLsb' 0 6).toNat
        else fixedOperandCount (w0.extractLsb' 16 8) = some (w1.extractLsb' 0 6).toNat) ∧
       operands.length = (w1.extractLsb' 0 6).toNat ∧ w0.extractLsb' 0 16 = 0#16 ∧ w1.extractLsb' 6 26 = 0#26) ∧
   (∀ (code : BitVec 8) (i : Instr) (s : State), rowOfCode code = some i → s.resetHeld = none →
     (s.requestQueue = [] ∨ s.executor ≠ .idle ∨
       ∃ p rest, s.requestQueue = p :: rest ∧ (formGood p = false ∨ requestCode p ≠ code)) →
     exec i s = .next s))

/-- R183: ReadIdentity. R12, R13, R184, R185: ResetPart, ReadPorts and WritePorts. -/
def Obligations.PartAndPortRequests : Prop :=
  (∀ (p : List Word) (rest : List (List Word)) (s : State), RequestReady 0x01#8 p rest s →
     exec .readIdentity s = .next
       (offerReply
         (okReply p
           [0x0A71#32, 0x3216#32, 1#32, num s.memory.blocks, num s.lastResetCause.code, s.reference.tickNumber,
            num s.faults.mode.code])
         (takeRequest rest s))) ∧
  (∀ (p : List Word) (rest : List (List Word)) (s : State),
     (RequestReady 0x02#8 p rest s → exec .resetPart s = .next (offerReply (okReply p []) (takeRequest rest s))) ∧
     (RequestReady 0x03#8 p rest s →
       exec .readPorts s = .next
         (offerReply
           (okReply p
             ((indexes 4).flatMap (fun q =>
                 [flag s.ingress[q].enabled, flag s.ingress[q].permission, num s.ingress[q].bitOrder.code]) ++
               (indexes 4).flatMap (fun q => [flag s.egress[q].enabled, num s.egress[q].bitOrder.code]) ++
               [num s.replyPort.val]))
           (takeRequest rest s))) ∧
     (RequestReady 0x04#8 p rest s →
       ((∃ i, i < 20 ∧ 1 < argument p i) →
         exec .writePorts s = .next (offerReply (badArgumentReply p 1) (takeRequest rest s))) ∧
       ((∀ i, i < 20 → argument p i ≤ 1) →
         (3 < argument p 20 → exec .writePorts s = .next (offerReply (badArgumentReply p 2) (takeRequest rest s))) ∧
         (argument p 20 ≤ 3 →
           (∀ q : Fin 4, ¬(argument p (3 * q.val) = 1 ∧ argument p (3 * q.val + 1) = 1)) →
           exec .writePorts s = .next (offerReply (badArgumentReply p 3) (takeRequest rest s))) ∧
         (argument p 20 ≤ 3 →
           (∃ q : Fin 4, argument p (3 * q.val) = 1 ∧ argument p (3 * q.val + 1) = 1) →
           ∃ t, exec .writePorts s = .next (offerReply (okReply p []) t) ∧
             Keeps [.ingress, .egress, .dispatcher, .replyPort] (takeRequest rest s) t ∧
             (∀ q : Fin 4,
               t.ingress[q].enabled = decide (argument p (3 * q.val) = 1) ∧
               t.ingress[q].permission = decide (argument p (3 * q.val + 1) = 1) ∧
               t.ingress[q].bitOrder = (if argument p (3 * q.val + 2) = 1 then .msbFirst else .lsbFirst) ∧
               t.ingress[q].fifo =
                 (if s.ingress[q].enabled = true ∧ argument p (3 * q.val) = 0 then [] else s.ingress[q].fifo) ∧
               t.egress[q] =
                 { s.egress[q] with
                   enabled := decide (argument p (12 + 2 * q.val) = 1)
                   bitOrder := if argument p (13 + 2 * q.val) = 1 then .msbFirst else .lsbFirst }) ∧
             t.replyPort.val = argument p 20 ∧
             t.dispatcher.pointer = s.dispatcher.pointer ∧
             (s.dispatcher.waiting = none → t.dispatcher.waiting = none) ∧
             (∀ q : Fin 4, s.dispatcher.waiting = some q →
               t.dispatcher.waiting =
                 if s.ingress[q].enabled = true ∧ argument p (3 * q.val) = 0 then none else some q)))))

/-- R36, R54, R80: the reads of a stream's entry, context and ring; a stream number above 31 is turned away. The result for a disturbed
entry that stores a ring length above 8, the length as stored and the eight buffers that exist, is the model's choice (log entry
36). -/
def Obligations.StreamReads : Prop :=
  ∀ (p : List Word) (rest : List (List Word)) (s : State),
    (RequestReady 0x05#8 p rest s → 31 < argument p 0 →
      exec .readStreamEntry s = .next (offerReply (badArgumentReply p 1) (takeRequest rest s))) ∧
    (RequestReady 0x09#8 p rest s → 31 < argument p 0 →
      exec .readStreamStatus s = .next (offerReply (badArgumentReply p 1) (takeRequest rest s))) ∧
    (RequestReady 0x0A#8 p rest s → 31 < argument p 0 →
      exec .readRingStatus s = .next (offerReply (badArgumentReply p 1) (takeRequest rest s))) ∧
    (∀ n : Fin 32, argument p 0 = n.val →
      (RequestReady 0x05#8 p rest s →
        exec .readStreamEntry s = .next
          (offerReply
            (okReply p
              [num s.entries[n].fields.source.code, num s.entries[n].fields.regionBase, num s.entries[n].fields.bufferSize,
               num s.entries[n].fields.ringLength, num s.entries[n].fields.expectedBursts,
               num s.entries[n].fields.wordOrder.code, num s.entries[n].fields.windowMin, num s.entries[n].fields.windowMax,
               num s.entries[n].fields.lockCount, num s.entries[n].fields.cadenceLimit,
               num s.entries[n].fields.activityWindow, num s.entries[n].fields.activityThreshold,
               flag s.entries[n].fields.gapCheck, flag (!s.entries[n].parityGood)])
            (takeRequest rest s))) ∧
      (RequestReady 0x09#8 p rest s →
        exec .readStreamStatus s = .next
          (offerReply
            (okReply p
              [presence
                 [s.contexts[n].lastInterval.isSome, s.contexts[n].intervalMin.isSome, s.contexts[n].intervalMax.isSome,
                  s.contexts[n].rateClass.isSome, s.contexts[n].lastFrameNumber.isSome],
               num s.contexts[n].state.code, num s.contexts[n].intervalCounter, flag s.contexts[n].measuring,
               optNum s.contexts[n].lastInterval, optNum s.contexts[n].intervalMin, optNum s.contexts[n].intervalMax,
               optNum (s.contexts[n].rateClass.map RateClass.code), num s.contexts[n].lockProgress,
               num s.contexts[n].cadenceRun, num s.contexts[n].windowTicks, num s.contexts[n].windowFrames,
               optField s.contexts[n].lastFrameNumber, s.contexts[n].sequenceCounter,
               field s.contexts[n].fillTagCounter, num s.contexts[n].writesOutstanding, flag s.contexts[n].refusing])
            (takeRequest rest s))) ∧
      (RequestReady 0x0A#8 p rest s →
        exec .readRingStatus s = .next
          (offerReply
            (okReply p
              (num s.entries[n].fields.ringLength ::
                ((indexes 8).filter (fun i => decide (i.val < s.entries[n].fields.ringLength))).flatMap
                  (fun i => bufferWords s.rings[n][i])))
            (takeRequest rest s)))) ∧
    (∀ present : List Bool, ∀ i, i < 32 → present.length ≤ 32 →
      (presence present).getLsbD i = present.getD i false)

/-- R35, R37: WriteStreamEntry: the first failing check of the table decides; else the whole entry is replaced, with good parity. That a
gap check operand other than 0 and 1 passes, and one of the two values is then stored (a free value), is the model's choice (log
entry 15). -/
def Obligations.StreamEntryWritten : Prop :=
  ∀ (p : List Word) (rest : List (List Word)) (s : State), RequestReady 0x06#8 p rest s →
    (31 < argument p 0 →
      exec .writeStreamEntry s = .next (offerReply (badArgumentReply p 1) (takeRequest rest s))) ∧
    (∀ n : Fin 32, argument p 0 = n.val →
      let first := firstFailure
        [(decide (s.contexts[n].state = .off), .refused), (decide (argument p 1 ≤ 4), .badArgument 2),
         (decide (argument p 2 < s.memory.blocks), .badArgument 3),
         (decide (1 ≤ argument p 3 ∧ argument p 3 ≤ 4096), .badArgument 4),
         (decide (2 ≤ argument p 4 ∧ argument p 4 ≤ 8), .badArgument 5),
         (decide (argument p 5 ≤ 4096), .badArgument 6), (decide (argument p 6 ≤ 1), .badArgument 7),
         (decide (argument p 7 ≤ 0xFFFFFE ∧ argument p 8 ≤ 0xFFFFFE), .badArgument 8),
         (decide (1 ≤ argument p 9 ∧ argument p 9 ≤ 15), .badArgument 9),
         (decide (1 ≤ argument p 10 ∧ argument p 10 ≤ 15), .badArgument 10),
         (decide (1 ≤ argument p 11 ∧ argument p 11 ≤ 15), .badArgument 11),
         (decide (1 ≤ argument p 12 ∧ argument p 12 ≤ 15), .badArgument 12)]
      (first = some .refused →
        exec .writeStreamEntry s = .next (offerReply (refusedReply p) (takeRequest rest s))) ∧
      (∀ reason, first = some (.badArgument reason) →
        exec .writeStreamEntry s = .next (offerReply (badArgumentReply p reason) (takeRequest rest s))) ∧
      (first = none → ∃ (source : StreamSource) (gapCheck : Bool),
        source.code = argument p 1 ∧ (argument p 13 ≤ 1 → gapCheck = decide (argument p 13 = 1)) ∧
        exec .writeStreamEntry s = .next
          (offerReply (okReply p [])
            { takeRequest rest s with
              entries :=
                s.entries.set n
                  { fields :=
                      { source := source, regionBase := argument p 2, bufferSize := argument p 3, ringLength := argument p 4,
                        expectedBursts := argument p 5,
                        wordOrder := if argument p 6 = 1 then .swapped else .normal,
                        windowMin := argument p 7, windowMax := argument p 8, lockCount := argument p 9,
                        cadenceLimit := argument p 10, activityWindow := argument p 11, activityThreshold := argument p 12,
                        gapCheck := gapCheck },
                    parityGood := true } })))

/-- R39, R40, R51: EnableStream and DisableStream. The mark activityDue that enabling clears is the model's own (log entry 5). -/
def Obligations.StreamServiceRequests : Prop :=
  ∀ (p : List Word) (rest : List (List Word)) (s : State),
    (RequestReady 0x07#8 p rest s →
      (31 < argument p 0 → exec .enableStream s = .next (offerReply (badArgumentReply p 1) (takeRequest rest s))) ∧
      (∀ n : Fin 32, argument p 0 = n.val →
        (s.contexts[n].state ≠ .off →
          exec .enableStream s = .next (offerReply (refusedReply p) (takeRequest rest s))) ∧
        (s.contexts[n].state = .off → s.entries[n].parityGood = false →
          exec .enableStream s = .next
            (offerReply (badArgumentReply p 2)
              (majorFault .tableParity .streamTable n.val none (takeRequest rest s)))) ∧
        (s.contexts[n].state = .off → s.entries[n].parityGood = true →
          let f := s.entries[n].fields
          let first := firstFailure
            [(decide (f.regionBase + f.bufferSize * f.ringLength ≤ s.memory.blocks), .badArgument 3),
             (decide (f.expectedBursts = 0 ∨ f.expectedBursts ≤ f.bufferSize), .badArgument 4),
             (decide (f.windowMin ≤ f.windowMax), .badArgument 5),
             (decide (∀ m : Fin 32, m ≠ n → s.contexts[m].state ≠ .off →
                f.regionBase + f.bufferSize * f.ringLength ≤ s.entries[m].fields.regionBase ∨
                  s.entries[m].fields.regionBase + s.entries[m].fields.bufferSize * s.entries[m].fields.ringLength
                    ≤ f.regionBase), .badArgument 6),
             (decide (f.source ≠ .generator ∨ ∀ m : Fin 32, m ≠ n → s.contexts[m].state ≠ .off →
                s.entries[m].fields.source ≠ .generator), .badArgument 7)]
          (∀ reason, first = some (.badArgument reason) →
            exec .enableStream s = .next (offerReply (badArgumentReply p reason) (takeRequest rest s))) ∧
          (first = none →
            exec .enableStream s = .next
              (offerReply (okReply p [])
                { takeRequest rest s with
                  contexts :=
                    s.contexts.set n
                      { s.contexts[n] with
                        state := .acquiring, intervalCounter := 0, measuring := false, lastInterval := none,
                        rateClass := none, lastFrameNumber := none, lockProgress := 0, cadenceRun := 0, windowTicks := 0,
                        windowFrames := 0, sequenceCounter := 0, fillTagCounter := 0, refusing := false,
                        activityDue := false } }))))) ∧
    (RequestReady 0x08#8 p rest s →
      (31 < argument p 0 → exec .disableStream s = .next (offerReply (badArgumentReply p 1) (takeRequest rest s))) ∧
      (∀ n : Fin 32, argument p 0 = n.val →
        (s.contexts[n].state = .off ∨ s.contexts[n].state = .closing →
          exec .disableStream s = .next (offerReply (refusedReply p) (takeRequest rest s))) ∧
        (s.contexts[n].state ≠ .off → s.contexts[n].state ≠ .closing →
          exec .disableStream s = .next (offerReply (okReply p []) (enterClosing n (takeRequest rest s))))))

/-- R84, R85, R109, R130: the requests on a slot's route and status. That the words of a pending entry or an abort record that is absent
are 0 is the model's inference (log entry 19, DEDUCED). -/
def Obligations.RouteRequests : Prop :=
  ∀ (p : List Word) (rest : List (List Word)) (s : State),
    (15 < argument p 0 →
      (RequestReady 0x0B#8 p rest s →
        exec .readRouteEntry s = .next (offerReply (badArgumentReply p 1) (takeRequest rest s))) ∧
      (RequestReady 0x0C#8 p rest s →
        exec .writeRouteEntry s = .next (offerReply (badArgumentReply p 1) (takeRequest rest s))) ∧
      (RequestReady 0x0D#8 p rest s →
        exec .readSlotStatus s = .next (offerReply (badArgumentReply p 1) (takeRequest rest s)))) ∧
    (∀ k : Fin 16, argument p 0 = k.val →
      (RequestReady 0x0B#8 p rest s →
        exec .readRouteEntry s = .next
          (offerReply
            (okReply p
              (routeFieldWords s.routes[k].active.fields ++ [flag (!s.routes[k].active.parityGood)] ++
                [flag s.routes[k].pending.isSome] ++
                (match s.routes[k].pending with
                 | none => List.replicate 10 0#32
                 | some e => routeFieldWords e.fields ++ [flag (!e.parityGood)])))
            (takeRequest rest s))) ∧
      (RequestReady 0x0C#8 p rest s →
        let first := firstFailure
          [(decide (argument p 1 ≤ 1), .badArgument 2), (decide (argument p 2 ≤ 31), .badArgument 3),
           (decide (argument p 3 ≤ 7), .badArgument 4), (decide (argument p 4 ≤ 255), .badArgument 5),
           (decide (argument p 5 ≤ 2), .badArgument 6), (decide (1 ≤ argument p 7 ∧ argument p 7 ≤ 4096), .badArgument 7),
           (decide (argument p 8 ≤ 3), .badArgument 8), (decide (argument p 9 ≤ 61), .badArgument 9)]
        (∀ reason, first = some (.badArgument reason) →
          exec .writeRouteEntry s = .next (offerReply (badArgumentReply p reason) (takeRequest rest s))) ∧
        (first = none → ∃ (n : Fin 32) (kind : SubstKind) (port : Fin 4),
          n.val = argument p 2 ∧ kind.code = argument p 5 ∧ port.val = argument p 8 ∧
          exec .writeRouteEntry s = .next
            (offerReply (okReply p [])
              { takeRequest rest s with
                routes :=
                  s.routes.set k
                    { s.routes[k] with
                      pending := some
                        { fields :=
                            { enabled := decide (argument p 1 = 1), stream := n, delay := argument p 3,
                              holdLimit := argument p 4, substKind := kind, fillWord := p.getD 8 0,
                              fillLength := argument p 7, egressPort := port, outputTag := BitVec.ofNat 6 (argument p 9) },
                          parityGood := true } } }))) ∧
      (RequestReady 0x0D#8 p rest s →
        exec .readSlotStatus s = .next
          (offerReply
            (okReply p
              (slotPresence s.slots[k] s.emissions[k].record :: slotContextWords s.slots[k] ++
                recordWords s.emissions[k].record ++ fifoWords s.emissions[k] ++
                (indexes 4).flatMap fun q => abortWords s.emissions[k].aborts[q]))
            (takeRequest rest s)))) ∧
    (∀ f : RouteFields, routeFieldWords f =
      [flag f.enabled, num f.stream.val, num f.delay, num f.holdLimit, num f.substKind.code, f.fillWord, num f.fillLength,
       num f.egressPort.val, f.outputTag.setWidth 32])

/-- R32: ReadReference. R29 to R31: SetReference: in the mode in force the parameters are pending, in the other mode they take effect at
once. -/
def Obligations.ReferenceRequests : Prop :=
  (∀ (p : List Word) (rest : List (List Word)) (s : State), RequestReady 0x0E#8 p rest s →
     exec .readReference s = .next
       (offerReply
         (okReply p
           [presence
              [s.reference.pendingParams.isSome, s.reference.pendingParams.isSome, s.reference.pendingParams.isSome,
               s.reference.pendingParams.isSome, s.reference.edgeCounter.isSome],
            num s.reference.mode.code, num s.reference.state.code, num s.reference.params.period,
            num s.reference.params.tolerance, num s.reference.params.lossCount, num s.reference.params.regainCount,
            optNum (s.reference.pendingParams.map RefParams.period), optNum (s.reference.pendingParams.map RefParams.tolerance),
            optNum (s.reference.pendingParams.map RefParams.lossCount),
            optNum (s.reference.pendingParams.map RefParams.regainCount), num s.reference.periodCounter,
            optNum s.reference.edgeCounter, num s.reference.missedRun, num s.reference.goodRun, s.reference.tickNumber])
         (takeRequest rest s))) ∧
  (∀ (p : List Word) (rest : List (List Word)) (s : State), RequestReady 0x0F#8 p rest s →
     let q : RefParams :=
       { period := argument p 1, tolerance := argument p 2, lossCount := argument p 3, regainCount := argument p 4 }
     let first := firstFailure
       [(decide (argument p 0 ≤ 1), .badArgument 1),
        (decide (1000 ≤ q.period ∧ q.period ≤ 16777214), .badArgument 2),
        (decide (4 * q.tolerance ≤ q.period), .badArgument 3),
        (decide (1 ≤ q.lossCount ∧ q.lossCount ≤ 15), .badArgument 4),
        (decide (1 ≤ q.regainCount ∧ q.regainCount ≤ 15), .badArgument 5)]
     (∀ reason, first = some (.badArgument reason) →
       exec .setReference s = .next (offerReply (badArgumentReply p reason) (takeRequest rest s))) ∧
     (first = none → argument p 0 = s.reference.mode.code →
       exec .setReference s = .next
         (offerReply (okReply p [])
           { takeRequest rest s with reference := { s.reference with pendingParams := some q } })) ∧
     (first = none → argument p 0 = 1 → s.reference.mode = .free →
       exec .setReference s = .next
         (offerReply (okReply p [])
           (raise .refState 0 3
             { takeRequest rest s with
               reference :=
                 { s.reference with
                   mode := .follow, state := .searching, params := q, pendingParams := none, periodCounter := 0,
                   missedRun := 0, goodRun := 0, edgeCounter := none } }))) ∧
     (first = none → argument p 0 = 0 → s.reference.mode = .follow →
       exec .setReference s = .next
         (offerReply (okReply p [])
           (raise .refState 0 0
             { takeRequest rest s with
               reference :=
                 { s.reference with
                   mode := .free, state := .free, params := q, pendingParams := none, periodCounter := 0,
                   missedRun := 0, goodRun := 0, edgeCounter := none } }))))

/-- R141, R142: ReadArbitration and SetArbitration; a refresh timer already at the new interval expires in that event (R137). -/
def Obligations.ArbitrationRequests : Prop :=
  ∀ (p : List Word) (rest : List (List Word)) (s : State),
    (RequestReady 0x10#8 p rest s →
      exec .readArbitration s = .next
        (offerReply
          (okReply p
            [num s.arbiter.order.code, num s.arbiter.lowMark, num s.arbiter.urgentMark, num s.arbiter.refreshInterval,
             num s.arbiter.refreshTimer, num s.arbiter.refreshOwed, num s.writeQueue.length,
             flag ((s.writeQueue.head?.map WriteEntry.state) == some .writing), flag s.arbiter.access.isSome,
             optNum (s.arbiter.access.map Access.code),
             num (match s.arbiter.access with
                  | some (.egress k) => k.val
                  | _ => 0),
             num s.arbiter.egressPointer.val, num s.memory.blocks])
          (takeRequest rest s))) ∧
    (RequestReady 0x11#8 p rest s →
      let first := firstFailure
        [(decide (argument p 0 ≤ 5), .badArgument 1), (decide (1 ≤ argument p 1 ∧ argument p 1 ≤ 7), .badArgument 2),
         (decide (argument p 2 ≤ 6), .badArgument 3), (decide (argument p 2 < argument p 1), .badArgument 4),
         (decide (64 ≤ argument p 3 ∧ argument p 3 ≤ 65535), .badArgument 5)]
      (∀ reason, first = some (.badArgument reason) →
        exec .setArbitration s = .next (offerReply (badArgumentReply p reason) (takeRequest rest s))) ∧
      (first = none → ∃ order : ArbOrder, order.code = argument p 0 ∧
        (s.arbiter.refreshTimer < argument p 3 →
          exec .setArbitration s = .next
            (offerReply (okReply p [])
              { takeRequest rest s with
                arbiter :=
                  { s.arbiter with
                    order := order, lowMark := argument p 1, urgentMark := argument p 2, refreshInterval := argument p 3 } })) ∧
        (argument p 3 ≤ s.arbiter.refreshTimer → s.arbiter.refreshOwed < 8 →
          exec .setArbitration s = .next
            (offerReply (okReply p [])
              { takeRequest rest s with
                arbiter :=
                  { s.arbiter with
                    order := order, lowMark := argument p 1, urgentMark := argument p 2, refreshInterval := argument p 3,
                    refreshTimer := 0, refreshOwed := s.arbiter.refreshOwed + 1 } })) ∧
        (argument p 3 ≤ s.arbiter.refreshTimer → 8 ≤ s.arbiter.refreshOwed →
          exec .setArbitration s = .next
            (offerReply (okReply p [])
              (majorFault .refreshOverdue .refresh 0 none
                { takeRequest rest s with
                  arbiter :=
                    { s.arbiter with
                      order := order, lowMark := argument p 1, urgentMark := argument p 2, refreshInterval := argument p 3,
                      refreshTimer := 0 } })))))

/-- R139, R140, R180: MemoryRead and MemoryWrite: the checks, then the wait for memory with the request in hand. -/
def Obligations.MemoryRequests : Prop :=
  ∀ (p : List Word) (rest : List (List Word)) (s : State),
    (RequestReady 0x12#8 p rest s →
      (argument p 1 = 0 ∨ 16 < argument p 1 →
        exec .memoryRead s = .next (offerReply (badArgumentReply p 1) (takeRequest rest s))) ∧
      (1 ≤ argument p 1 → argument p 1 ≤ 16 →
        (64 * s.memory.blocks < argument p 0 + argument p 1 →
          exec .memoryRead s = .next (offerReply (badArgumentReply p 2) (takeRequest rest s))) ∧
        (argument p 0 + argument p 1 ≤ 64 * s.memory.blocks →
          exec .memoryRead s = .next
            { s with
              requestQueue := rest
              executor := .waitMemory
                { tag := requestTag p, code := 0x12#8, address := argument p 0, count := argument p 1, data := none } }))) ∧
    (RequestReady 0x13#8 p rest s →
      (argument p 1 = 0 ∨ 16 < argument p 1 →
        exec .memoryWrite s = .next (offerReply (badArgumentReply p 1) (takeRequest rest s))) ∧
      (1 ≤ argument p 1 → argument p 1 ≤ 16 →
        (64 * s.memory.blocks < argument p 0 + argument p 1 →
          exec .memoryWrite s = .next (offerReply (badArgumentReply p 2) (takeRequest rest s))) ∧
        (argument p 0 + argument p 1 ≤ 64 * s.memory.blocks →
          ((∃ (n : Fin 32) (w : Nat), s.contexts[n].state ≠ .off ∧ argument p 0 ≤ w ∧ w < argument p 0 + argument p 1 ∧
              s.entries[n].fields.regionBase ≤ w / 64 ∧
              w / 64 < s.entries[n].fields.regionBase + s.entries[n].fields.bufferSize * s.entries[n].fields.ringLength) →
            exec .memoryWrite s = .next (offerReply (refusedReply p) (takeRequest rest s))) ∧
          ((∀ (n : Fin 32) (w : Nat), s.contexts[n].state ≠ .off → argument p 0 ≤ w → w < argument p 0 + argument p 1 →
              ¬(s.entries[n].fields.regionBase ≤ w / 64 ∧
                w / 64 < s.entries[n].fields.regionBase + s.entries[n].fields.bufferSize * s.entries[n].fields.ringLength)) →
            exec .memoryWrite s = .next
              { s with
                requestQueue := rest
                executor := .waitMemory
                  { tag := requestTag p, code := 0x13#8, address := argument p 0, count := argument p 1,
                    data := some (p.drop 4) } }))))

/-- R147, R150, R152: SetCounterMode, SnapshotCounters and ReadCounters. That the reasons of ReadCounters are numbered 1 group and 2
index, in the order of R152's text, is the model's choice (log entry 32). -/
def Obligations.CounterRequests : Prop :=
  ∀ (p : List Word) (rest : List (List Word)) (s : State),
    (RequestReady 0x14#8 p rest s →
      (1 < argument p 0 → exec .snapshotCounters s = .next (offerReply (badArgumentReply p 1) (takeRequest rest s))) ∧
      (argument p 0 = 0 →
        exec .snapshotCounters s = .next
          (offerReply (okReply p [s.reference.tickNumber])
            { takeRequest rest s with snapshot := snapshotTaken false s })) ∧
      (argument p 0 = 1 →
        exec .snapshotCounters s = .next
          (offerReply (okReply p [s.reference.tickNumber])
            { takeRequest rest s with
              snapshot := snapshotTaken true s
              live := State.zeroCounters
              contexts := s.contexts.map fun c => { c with intervalMin := none, intervalMax := none } }))) ∧
    (∀ clear : Bool, (snapshotTaken clear s).counters = s.live ∧
      (snapshotTaken clear s).tick = some s.reference.tickNumber ∧ (snapshotTaken clear s).cleared = clear ∧
      ∀ n : Fin 32, (snapshotTaken clear s).extremes[n] =
        { minimum := s.contexts[n].intervalMin, maximum := s.contexts[n].intervalMax }) ∧
    (RequestReady 0x15#8 p rest s →
      (5 < argument p 0 → exec .readCounters s = .next (offerReply (badArgumentReply p 1) (takeRequest rest s))) ∧
      (argument p 0 ≤ 5 → [32, 16, 4, 4, 1, 1].getD (argument p 0) 0 ≤ argument p 1 →
        exec .readCounters s = .next (offerReply (badArgumentReply p 2) (takeRequest rest s))) ∧
      (∀ n : Fin 32, argument p 0 = 0 → argument p 1 = n.val →
        exec .readCounters s = .next
          (offerReply
            (okReply p
              [presence
                 [s.snapshot.extremes[n].minimum.isSome, s.snapshot.extremes[n].maximum.isSome, s.snapshot.tick.isSome],
               s.snapshot.counters.streams[n].accepted, s.snapshot.counters.streams[n].damaged,
               s.snapshot.counters.streams[n].dropped, s.snapshot.counters.streams[n].refused,
               s.snapshot.counters.streams[n].orphans, s.snapshot.counters.streams[n].cadenceErrors,
               s.snapshot.counters.streams[n].gaps, optNum s.snapshot.extremes[n].minimum,
               optNum s.snapshot.extremes[n].maximum, s.snapshot.tick.getD 0, flag s.snapshot.cleared])
            (takeRequest rest s))) ∧
      (∀ k : Fin 16, argument p 0 = 1 → argument p 1 = k.val →
        exec .readCounters s = .next
          (offerReply
            (okReply p
              [presence [false, false, s.snapshot.tick.isSome], s.snapshot.counters.slots[k].emitted,
               s.snapshot.counters.slots[k].repeats, s.snapshot.counters.slots[k].skips,
               s.snapshot.counters.slots[k].substitutes, s.snapshot.counters.slots[k].late, s.snapshot.tick.getD 0,
               flag s.snapshot.cleared])
            (takeRequest rest s))) ∧
      (∀ q : Fin 4, argument p 0 = 2 → argument p 1 = q.val →
        exec .readCounters s = .next
          (offerReply
            (okReply p
              [presence [false, false, s.snapshot.tick.isSome], s.snapshot.counters.ingress[q].goodBursts,
               s.snapshot.counters.ingress[q].checkErrors, s.snapshot.counters.ingress[q].framingErrors,
               s.snapshot.counters.ingress[q].headerErrors, s.snapshot.counters.ingress[q].overruns,
               s.snapshot.counters.ingress[q].misroutes, s.snapshot.tick.getD 0, flag s.snapshot.cleared])
            (takeRequest rest s))) ∧
      (∀ q : Fin 4, argument p 0 = 3 → argument p 1 = q.val →
        exec .readCounters s = .next
          (offerReply
            (okReply p
              [presence [false, false, s.snapshot.tick.isSome], s.snapshot.counters.egress[q].sentBursts,
               s.snapshot.counters.egress[q].discardedBursts, s.snapshot.tick.getD 0, flag s.snapshot.cleared])
            (takeRequest rest s))) ∧
      (argument p 0 = 4 → argument p 1 = 0 →
        exec .readCounters s = .next
          (offerReply
            (okReply p
              [presence [false, false, s.snapshot.tick.isSome], s.snapshot.counters.reference.strayEdges,
               s.snapshot.counters.reference.flywheelTicks, s.snapshot.tick.getD 0, flag s.snapshot.cleared])
            (takeRequest rest s))) ∧
      (argument p 0 = 5 → argument p 1 = 0 →
        exec .readCounters s = .next
          (offerReply
            (okReply p
              [presence [false, false, s.snapshot.tick.isSome], s.snapshot.counters.memory.corrected,
               s.snapshot.counters.memory.uncorrectable, s.snapshot.tick.getD 0, flag s.snapshot.cleared])
            (takeRequest rest s)))) ∧
    (RequestReady 0x16#8 p rest s →
      (1 < argument p 0 → exec .setCounterMode s = .next (offerReply (badArgumentReply p 1) (takeRequest rest s))) ∧
      (argument p 0 ≤ 1 →
        exec .setCounterMode s = .next
          (offerReply (okReply p [])
            { takeRequest rest s with counterMode := if argument p 0 = 1 then .saturate else .wrap })))

/-- R174 to R176: the requests on the event latches. -/
def Obligations.EventRequests : Prop :=
  ∀ (p : List Word) (rest : List (List Word)) (s : State),
    (RequestReady 0x17#8 p rest s →
      ((∀ i : Fin 16, ¬(s.latches[i].pending = true ∧ s.latches[i].mask = true)) →
        exec .readEvent s = .next (offerReply (okReply p [0xFF#32, 0#32, 0#32]) (takeRequest rest s))) ∧
      (∀ i : Fin 16, s.latches[i].pending = true → s.latches[i].mask = true →
        (∀ j : Fin 16, i < j → ¬(s.latches[j].pending = true ∧ s.latches[j].mask = true)) →
        exec .readEvent s = .next
          (offerReply (okReply p [num i.val, field s.latches[i].source, field s.latches[i].cause])
            { takeRequest rest s with latches := s.latches.set i { s.latches[i] with pending := false } }))) ∧
    (RequestReady 0x18#8 p rest s →
      exec .readEventState s = .next
        (offerReply
          (okReply p
            (presence ((indexes 16).map fun i => s.latches[i].pending) ::
              presence ((indexes 16).map fun i => s.latches[i].mask) :: flag (alertAsserted s) ::
              (indexes 16).map fun i => (0#19 ++ s.latches[i].source ++ 0#4 ++ s.latches[i].cause : BitVec 32)))
          (takeRequest rest s))) ∧
    (RequestReady 0x19#8 p rest s → ∃ t, exec .clearEvents s = .next (offerReply (okReply p []) t) ∧
      Keeps [.latches] (takeRequest rest s) t ∧
      ∀ i : Fin 16, t.latches[i] =
        if (p.getD 2 0).getLsbD i.val = true then { s.latches[i] with pending := false } else s.latches[i]) ∧
    (RequestReady 0x1A#8 p rest s → ∃ t, exec .writeEventMask s = .next (offerReply (okReply p []) t) ∧
      Keeps [.latches] (takeRequest rest s) t ∧
      ∀ i : Fin 16, t.latches[i] = { s.latches[i] with mask := (p.getD 2 0).getLsbD i.val })

/-- R171, R172: the requests on the fault record. -/
def Obligations.FaultRequests : Prop :=
  ∀ (p : List Word) (rest : List (List Word)) (s : State),
    (RequestReady 0x1B#8 p rest s →
      (s.faults.captured = none →
        exec .readFaultRecord s = .next
          (offerReply
            (okReply p
              [0#32, flag s.faults.minorHeld, flag s.faults.majorHeld, flag s.faults.double, 0#32, 0#32, 0#32, 0#32, 0#32,
               num s.faults.mode.code])
            (takeRequest rest s))) ∧
      (∀ c, s.faults.captured = some c →
        exec .readFaultRecord s = .next
          (offerReply
            (okReply p
              [if c.block.isSome then 0x1F#32 else 0x17#32, flag s.faults.minorHeld, flag s.faults.majorHeld,
               flag s.faults.double, num c.kind.code, num c.source.code, num c.index, optNum c.block, c.tick,
               num s.faults.mode.code])
            (takeRequest rest s)))) ∧
    (RequestReady 0x1C#8 p rest s →
      exec .clearFaults s = .next
        (offerReply (okReply p [])
          { takeRequest rest s with
            faults :=
              { minorHeld := false, majorHeld := false, double := false, captured := none, mode := .normal } }))

/-- R156, R159: GeneratorStart and GeneratorStop (the mark frameStartDue is the model's own, log entry 5). R161, R164, R165:
CheckerSetup, CheckerSnapshot and ReadTestStatus. That CheckerSetup with tap NONE stores the tap index as given is the model's
inference (log entry 25, DEDUCED). -/
def Obligations.TestRequests : Prop :=
  (∀ (p : List Word) (rest : List (List Word)) (s : State),
     (RequestReady 0x1D#8 p rest s →
       (31 < argument p 0 → exec .generatorStart s = .next (offerReply (badArgumentReply p 1) (takeRequest rest s))) ∧
       (∀ n : Fin 32, argument p 0 = n.val →
         let first := firstFailure
           [(decide (argument p 1 ≤ 2), .badArgument 2), (decide (1 ≤ argument p 3 ∧ argument p 3 ≤ 4096), .badArgument 3),
            (decide (argument p 4 ≤ 65535), .badArgument 4), (decide (1 ≤ argument p 5 ∧ argument p 5 ≤ 255), .badArgument 5),
            (decide (s.generator.state = .stopped), .refused), (decide (s.faults.mode = .normal), .refused),
            (decide (s.entries[n].fields.source = .generator), .refused),
            (decide (s.contexts[n].state ≠ .off ∧ s.contexts[n].state ≠ .closing), .refused)]
         (∀ reason, first = some (.badArgument reason) →
           exec .generatorStart s = .next (offerReply (badArgumentReply p reason) (takeRequest rest s))) ∧
         (first = some .refused →
           exec .generatorStart s = .next (offerReply (refusedReply p) (takeRequest rest s))) ∧
         (first = none → ∃ pattern : Pattern, pattern.code = argument p 1 ∧
           exec .generatorStart s = .next
             (offerReply (okReply p [])
               { takeRequest rest s with
                 generator :=
                   { state := .running, stream := some n, pattern := pattern, fillWord := p.getD 4 0,
                     frameLength := argument p 3, frameCount := argument p 4, spacing := argument p 5,
                     ticksSinceStart := none, inProgress := false, burstsTaken := 0, framesDone := 0, nextFrameNumber := 0,
                     stopRequested := false, countValue := 0, pnRegister := BitVec.allOnes 23, waiting := none,
                     frameStartDue := false } })))) ∧
     (RequestReady 0x1E#8 p rest s →
       (s.generator.state = .stopped →
         exec .generatorStop s = .next (offerReply (refusedReply p) (takeRequest rest s))) ∧
       (s.generator.state = .running → s.generator.inProgress = true →
         exec .generatorStop s = .next
           (offerReply (okReply p [])
             { takeRequest rest s with generator := { s.generator with stopRequested := true } })) ∧
       (s.generator.state = .running → s.generator.inProgress = false →
         exec .generatorStop s = .next
           (offerReply (okReply p [])
             { takeRequest rest s with generator := { s.generator with state := .stopped, frameStartDue := false } })))) ∧
  (∀ (p : List Word) (rest : List (List Word)) (s : State),
     (RequestReady 0x1F#8 p rest s →
       let first := firstFailure
         [(decide (argument p 0 ≤ 2), .badArgument 1),
          (decide ((argument p 0 = 1 → argument p 1 ≤ 31) ∧ (argument p 0 = 2 → argument p 1 ≤ 15)), .badArgument 2),
          (decide (argument p 2 ≤ 2), .badArgument 3), (decide (argument p 4 ≤ 1), .badArgument 4)]
       (∀ reason, first = some (.badArgument reason) →
         exec .checkerSetup s = .next (offerReply (badArgumentReply p reason) (takeRequest rest s))) ∧
       (first = none → ∃ (tap : Tap) (pattern : Pattern), tap.code = argument p 0 ∧ pattern.code = argument p 2 ∧
         exec .checkerSetup s = .next
           (offerReply (okReply p [])
             { takeRequest rest s with
               checker :=
                 { state := if argument p 0 = 0 then .idle else .seeking, tap := tap, tapIndex := argument p 1,
                   pattern := pattern, fillWord := p.getD 5 0, restartAtFrame := decide (argument p 4 = 1),
                   expectation := none, matchRun := 0, mismatchRun := 0, words := 0, errors := 0, frames := 0 } }))) ∧
     (RequestReady 0x20#8 p rest s →
       (1 < argument p 0 → exec .checkerSnapshot s = .next (offerReply (badArgumentReply p 1) (takeRequest rest s))) ∧
       (argument p 0 ≤ 1 →
         exec .checkerSnapshot s = .next
           (offerReply
             (okReply p
               [s.checker.words, s.checker.errors.setWidth 32, s.checker.frames, s.reference.tickNumber, num (argument p 0)])
             { takeRequest rest s with
               checkerBank :=
                 { words := s.checker.words, errors := s.checker.errors, frames := s.checker.frames,
                   tick := some s.reference.tickNumber, cleared := decide (argument p 0 = 1) }
               checker :=
                 if argument p 0 = 1 then { s.checker with words := 0, errors := 0, frames := 0 } else s.checker }))) ∧
     (RequestReady 0x21#8 p rest s →
       exec .readTestStatus s = .next
         (offerReply
           (okReply p
             [presence [s.generator.stream.isSome, s.generator.ticksSinceStart.isSome, s.checker.expectation.isSome],
              num s.generator.state.code, num ((s.generator.stream.map Fin.val).getD 0), num s.generator.pattern.code,
              s.generator.fillWord, num s.generator.frameLength, num s.generator.frameCount, num s.generator.spacing,
              num (s.generator.ticksSinceStart.getD 0), flag s.generator.inProgress, num s.generator.burstsTaken,
              s.generator.framesDone, field s.generator.nextFrameNumber, flag s.generator.stopRequested,
              s.generator.countValue, field s.generator.pnRegister, num s.checker.state.code, num s.checker.tap.code,
              num s.checker.tapIndex, num s.checker.pattern.code, s.checker.fillWord, flag s.checker.restartAtFrame,
              num s.checker.matchRun, num s.checker.mismatchRun])
           (takeRequest rest s))))

/-! ## Laws of the part that every step keeps -/

/-- Every queue keeps its bound: R7, R112, R132, R137, R141, R177, R182. -/
def Obligations.QueuesStayBounded : Prop := KeptByStep QueuesBounded

/-- Frame memory keeps its canonical form, which is the model's own (log entries 10 and 12). -/
def Obligations.MemoryStaysCanonical : Prop := KeptByStep MemoryCanonical

/-- R166 to R171: the fault record keeps its laws: no minor and major fault held together, DOUBLE only with a major fault held, SAFE
exactly with DOUBLE, and a captured fault exactly of the class that is held. -/
def Obligations.FaultRecordStaysLawful : Prop := KeptByStep fun s => FaultRecordLawful s.faults

/-- R58: each buffer's hold count stays the number of slots whose current buffer it is. R62: a stream keeps at most one buffer in
FILLING. -/
def Obligations.HoldsAndFillingsStayLawful : Prop :=
  (KeptByStep HoldsCounted) ∧
  (KeptByStep OneFilling)

/-- R53: each stream's writes outstanding stays the number of its entries in the write queue. -/
def Obligations.WritesStayCounted : Prop := KeptByStep WritesCounted

/-- R21, R22, R25, R31: the reference state is FREE exactly in FREE mode, where e is absent and both runs are 0. -/
def Obligations.ReferenceStaysLawful : Prop := KeptByStep fun s => ReferenceLawful s.reference

/-- Every law of the part holds right after reset; the canonical form of frame memory is the model's own (log entries 10 and 12). -/
def Obligations.LawsHoldAtReset : Prop :=
  QueuesBounded State.reset ∧ MemoryCanonical State.reset ∧ FaultRecordLawful State.reset.faults ∧
    HoldsCounted State.reset ∧ OneFilling State.reset ∧ WritesCounted State.reset ∧ ReferenceLawful State.reset.reference
end

