-- ==== Sys2Proof/Laws/Memory.lean ====
section
/-! SUPPORT. Frame memory: reading after writing, and the canonical form that every memory operation keeps. -/

namespace Sys2Proof.Machine

/-! ## Bytes -/

theorem Memory.wfFrom_cons {low a : Nat} {v : Byte} {rest : Memory} :
    Memory.wfFrom low ((a, v) :: rest) = true ↔ low ≤ a ∧ v ≠ Config.unlistedByte ∧ Memory.wfFrom (a + 1) rest = true := by
  simp [Memory.wfFrom, and_assoc]

theorem Memory.wfFrom_mono {low high : Nat} {m : Memory} (h : Memory.wfFrom high m = true) (hle : low ≤ high) :
    Memory.wfFrom low m = true := by
  cases m with
  | nil => rfl
  | cons c rest =>
    obtain ⟨b, w⟩ := c
    rw [Memory.wfFrom_cons] at *
    exact ⟨hle.trans h.1, h.2⟩

/-- An address below every listed cell reads as an unlisted byte. -/
theorem Memory.read_below {low : Nat} {m : Memory} (h : Memory.wfFrom low m = true) {a : Nat} (ha : a < low) :
    m.read a = Config.unlistedByte := by
  induction m generalizing low with
  | nil => rfl
  | cons c rest ih =>
    obtain ⟨b, w⟩ := c
    rw [Memory.wfFrom_cons] at h
    have hne : a ≠ b := by omega
    simp only [Memory.read, hne, if_false]
    exact ih h.2.2 (by omega)

/-- What each address reads as after a byte has been written. -/
theorem Memory.read_write {low : Nat} {m : Memory} (h : Memory.wfFrom low m = true) (a x : Nat) (v : Byte) :
    (m.write a v).read x = if x = a then v else m.read x := by
  induction m generalizing low with
  | nil =>
    by_cases hv : v = Config.unlistedByte
    · simp [Memory.write, hv, Memory.read]
    · simp [Memory.write, hv, Memory.read]
  | cons c rest ih =>
    obtain ⟨b, w⟩ := c
    rw [Memory.wfFrom_cons] at h
    simp only [Memory.write]
    by_cases hab : a < b
    · by_cases hv : v = Config.unlistedByte
      · simp only [hab, if_true, hv]
        by_cases hx : x = a
        · have hlow : Memory.wfFrom b ((b, w) :: rest) = true := Memory.wfFrom_cons.mpr ⟨le_refl b, h.2⟩
          rw [if_pos hx, hx, Memory.read_below hlow hab]
        · rw [if_neg hx]
      · simp only [hab, if_true, hv, if_false, Memory.read]
    · by_cases hab2 : a = b
      · subst hab2
        by_cases hv : v = Config.unlistedByte
        · simp only [lt_irrefl, if_false, if_true, hv, Memory.read]
          by_cases hx : x = a
          · rw [if_pos hx, hx, Memory.read_below h.2.2 (Nat.lt_succ_self a)]
          · simp [hx]
        · simp only [lt_irrefl, if_false, if_true, hv, Memory.read]
          by_cases hx : x = a <;> simp [hx]
      · simp only [hab, hab2, if_false, Memory.read, ih h.2.2]
        by_cases hx : x = b
        · have : ¬ b = a := fun e => hab2 e.symm
          simp [hx, this]
        · simp [hx]

/-- A write keeps the canonical form. -/
theorem Memory.wfFrom_write {low : Nat} {m : Memory} (h : Memory.wfFrom low m = true) {a : Nat} (ha : low ≤ a) (v : Byte) :
    Memory.wfFrom low (m.write a v) = true := by
  induction m generalizing low with
  | nil =>
    by_cases hv : v = Config.unlistedByte
    · simp [Memory.write, hv, Memory.wfFrom]
    · simp [Memory.write, hv, Memory.wfFrom, ha]
  | cons c rest ih =>
    obtain ⟨b, w⟩ := c
    rw [Memory.wfFrom_cons] at h
    simp only [Memory.write]
    split
    · rename_i hab
      split
      · exact Memory.wfFrom_cons.mpr h
      · rename_i hv
        exact Memory.wfFrom_cons.mpr ⟨ha, hv, Memory.wfFrom_cons.mpr ⟨hab, h.2⟩⟩
    · split
      · rename_i hab
        subst hab
        split
        · exact Memory.wfFrom_mono h.2.2 (by omega)
        · rename_i hv
          exact Memory.wfFrom_cons.mpr ⟨ha, hv, h.2.2⟩
      · exact Memory.wfFrom_cons.mpr ⟨h.1, h.2.1, ih h.2.2 (by omega)⟩

theorem Memory.wf_write {m : Memory} (h : m.wf = true) (a : Nat) (v : Byte) : (m.write a v).wf = true :=
  Memory.wfFrom_write h (Nat.zero_le a) v

/-! ## Words -/

theorem Memory.wf_writeWord {m : Memory} (h : m.wf = true) (w : Nat) (v : Word) : (m.writeWord w v).wf = true :=
  Memory.wf_write (Memory.wf_write (Memory.wf_write (Memory.wf_write h _ _) _ _) _ _) _ _

theorem Memory.wf_writeWords {m : Memory} (h : m.wf = true) (w : Nat) (vs : List Word) : (m.writeWords w vs).wf = true := by
  induction vs generalizing m w with
  | nil => exact h
  | cons v rest ih => exact ih (Memory.wf_writeWord h w v) (w + 1)

/-- The word at an address after a word has been written. -/
theorem Memory.readWord_writeWord {m : Memory} (h : m.wf = true) (w x : Nat) (v : Word) :
    (m.writeWord w v).readWord x = if x = w then v else m.readWord x := by
  have h1 := Memory.wf_write h (4 * w) (v.extractLsb' 24 8)
  have h2 := Memory.wf_write h1 (4 * w + 1) (v.extractLsb' 16 8)
  have h3 := Memory.wf_write h2 (4 * w + 2) (v.extractLsb' 8 8)
  unfold Memory.writeWord Memory.readWord
  simp only [Memory.read_write h3, Memory.read_write h2, Memory.read_write h1, Memory.read_write h]
  by_cases hx : x = w
  · subst hx
    have e1 : 4 * x ≠ 4 * x + 3 := by omega
    have e2 : 4 * x ≠ 4 * x + 2 := by omega
    have e3 : 4 * x ≠ 4 * x + 1 := by omega
    have e4 : 4 * x + 1 ≠ 4 * x + 3 := by omega
    have e5 : 4 * x + 1 ≠ 4 * x + 2 := by omega
    have e6 : 4 * x + 2 ≠ 4 * x + 3 := by omega
    simp only [e1, e2, e3, e4, e5, e6, if_true, if_false]
    apply BitVec.eq_of_getLsbD_eq
    intro i hi
    simp only [BitVec.getLsbD_append, BitVec.getLsbD_extractLsb']
    by_cases a1 : i < 8
    · simp [a1]
    · by_cases a2 : i - 8 < 8
      · simp [a1, a2]; congr 1; omega
      · by_cases a3 : i - 8 - 8 < 8
        · simp [a1, a2, a3]; congr 1; omega
        · simp [a1, a2, a3]
          have : i - 8 - 8 - 8 < 8 := by omega
          simp [this]
          congr 1
          omega
  · have n0 (i j : Nat) (hi : i < 4) (hj : j < 4) : 4 * x + i ≠ 4 * w + j := by omega
    have m0 (j : Nat) (hj : j < 4) : 4 * x ≠ 4 * w + j := by omega
    have k0 (i : Nat) (hi : i < 4) : 4 * x + i ≠ 4 * w := by omega
    have z : 4 * x ≠ 4 * w := by omega
    simp only [hx, n0, m0, k0, z, if_false, Nat.reduceLT]

/-- The words at each address after words have been written one after another. -/
theorem Memory.readWord_writeWords {m : Memory} (h : m.wf = true) (w x : Nat) (vs : List Word) :
    (m.writeWords w vs).readWord x = if w ≤ x then vs.getD (x - w) (m.readWord x) else m.readWord x := by
  induction vs generalizing m w with
  | nil => simp [Memory.writeWords]
  | cons v rest ih =>
    rw [Memory.writeWords, ih (Memory.wf_writeWord h w v), Memory.readWord_writeWord h]
    by_cases h1 : w + 1 ≤ x
    · have h2 : w ≤ x := by omega
      have h3 : ¬ x = w := by omega
      have h4 : x - w = (x - (w + 1)) + 1 := by omega
      simp only [h1, h2, h3, if_true, if_false, h4, List.getD_cons_succ]
    · by_cases h2 : x = w
      · subst h2; simp
      · have h3 : ¬ w ≤ x := by omega
        simp [h1, h2, h3]

/-! ## Bits in error -/

/-- The bits in error rise strictly. -/
abbrev Rising (bad : List Nat) : Prop := bad.Pairwise (· < ·)

theorem mem_toggleBadBit {bad : List Nat} {b x : Nat} (h : x ∈ toggleBadBit bad b) : x = b ∨ x ∈ bad := by
  induction bad with
  | nil => simpa [toggleBadBit] using h
  | cons c rest ih =>
    unfold toggleBadBit at h
    split at h
    · simpa using h
    · split at h
      · exact Or.inr (List.mem_cons_of_mem _ h)
      · rcases List.mem_cons.mp h with h | h
        · exact Or.inr (by simp [h])
        · rcases ih h with h | h
          · exact Or.inl h
          · exact Or.inr (List.mem_cons_of_mem _ h)

theorem rising_toggleBadBit {bad : List Nat} (h : Rising bad) (b : Nat) : Rising (toggleBadBit bad b) := by
  induction bad with
  | nil => simp [toggleBadBit]
  | cons c rest ih =>
    replace h := List.pairwise_cons.mp h
    unfold toggleBadBit
    split
    · rename_i hbc
      refine List.pairwise_cons.mpr ⟨?_, List.pairwise_cons.mpr h⟩
      intro x hx
      rcases List.mem_cons.mp hx with e | hx
      · omega
      · have := h.1 x hx; omega
    · split
      · exact h.2
      · refine List.pairwise_cons.mpr ⟨?_, ih h.2⟩
        intro x hx
        rcases mem_toggleBadBit hx with e | hx
        · omega
        · exact h.1 x hx

theorem rising_clearBadBits {bad : List Nat} (h : Rising bad) (k n : Nat) : Rising (clearBadBits bad k n) :=
  h.filter _

theorem rising_foldl_toggle {bad : List Nat} (h : Rising bad) (f : Nat → Nat) (bits : List Nat) :
    Rising (bits.foldl (fun acc b => toggleBadBit acc (f b)) bad) := by
  induction bits generalizing bad with
  | nil => exact h
  | cons b rest ih => exact ih (rising_toggleBadBit h (f b))

/-! ## Frame memory -/

/-- The canonical form of frame memory: its cells and its bits in error. -/
abbrev FrameMemory.canonical (m : FrameMemory) : Prop := m.cells.wf = true ∧ Rising m.badBits

theorem FrameMemory.canonical_store {m : FrameMemory} (h : m.canonical) (a : Nat) (vs : List Word) : (m.store a vs).canonical :=
  ⟨Memory.wf_writeWords h.1 _ _, rising_clearBadBits h.2 _ _⟩

theorem FrameMemory.store_blocks (m : FrameMemory) (a : Nat) (vs : List Word) : (m.store a vs).blocks = m.blocks := rfl

/-- A fold whose every step keeps a property keeps it. -/
theorem foldl_keeps {α β : Type} (inv : β → Prop) (f : β → α → β) (hf : ∀ b a, inv b → inv (f b a)) (l : List α) (b : β)
    (h : inv b) : inv (l.foldl f b) := by
  induction l generalizing b with
  | nil => exact h
  | cons a rest ih => exact ih (f b a) (hf b a h)

theorem FrameMemory.canonical_abandon {m : FrameMemory} (h : m.canonical) (draw a : Nat) (vs : List Word) :
    (m.abandon draw a vs).canonical := by
  unfold FrameMemory.abandon
  apply foldl_keeps FrameMemory.canonical
  · intro acc k hacc
    unfold FrameMemory.disturb
    dsimp only
    split
    · exact hacc
    · exact ⟨hacc.1, rising_foldl_toggle hacc.2 _ _⟩
  · apply foldl_keeps FrameMemory.canonical _ _ _ m h
    intro acc k hacc
    split
    · exact ⟨Memory.wf_writeWords hacc.1 _ _, rising_clearBadBits hacc.2 _ _⟩
    · exact hacc

theorem canonicalCells_wf (cells : List Host.Cell) : (canonicalCells cells).wf = true := by
  unfold canonicalCells
  apply foldl_keeps (fun m : Memory => m.wf = true)
  · intro m c h
    exact Memory.wf_write h _ _
  · rfl

theorem canonicalBits_rising (bits : List Nat) : Rising (canonicalBits bits) := by
  unfold canonicalBits
  apply foldl_keeps Rising
  · intro acc b h
    split
    · exact h
    · exact rising_toggleBadBit h b
  · exact List.Pairwise.nil

end Sys2Proof.Machine
end

