-- ==== Sys2Proof/Laws/Abandon.lean ====
section
/-! SUPPORT. What a write that a reset abandons may leave of frame memory: nothing outside its memory words changes (R143). -/

namespace Sys2Proof.Machine

/-- A byte outside the word stored reads as before. -/
theorem Memory.read_writeWord {m : Memory} (h : m.wf = true) (w x : Nat) (v : Word) (hx : x / 4 ≠ w) :
    (m.writeWord w v).read x = m.read x := by
  have h1 := Memory.wf_write h (4 * w) (v.extractLsb' 24 8)
  have h2 := Memory.wf_write h1 (4 * w + 1) (v.extractLsb' 16 8)
  have h3 := Memory.wf_write h2 (4 * w + 2) (v.extractLsb' 8 8)
  have e0 : x ≠ 4 * w := by omega
  have e1 : x ≠ 4 * w + 1 := by omega
  have e2 : x ≠ 4 * w + 2 := by omega
  have e3 : x ≠ 4 * w + 3 := by omega
  unfold Memory.writeWord
  simp only [Memory.read_write h3, Memory.read_write h2, Memory.read_write h1, Memory.read_write h, e0, e1, e2, e3, if_false]

/-- Whether a bit other than the one turned over is in error stays as it was. -/
theorem mem_toggleBadBit_of_ne {bad : List Nat} {b x : Nat} (hx : x ≠ b) : x ∈ toggleBadBit bad b ↔ x ∈ bad := by
  induction bad with
  | nil => simp [toggleBadBit, hx]
  | cons c rest ih =>
    unfold toggleBadBit
    split
    · simp [hx]
    · split
      · rename_i hbc; subst hbc; simp [hx]
      · simp [ih]

/-- A fold whose every step with an element of the list keeps a property keeps it. -/
theorem foldl_keeps_mem {α β : Type} (inv : β → Prop) (f : β → α → β) (l : List α)
    (hf : ∀ b, ∀ a ∈ l, inv b → inv (f b a)) (b : β) (h : inv b) : inv (l.foldl f b) := by
  induction l generalizing b with
  | nil => exact h
  | cons a rest ih =>
    exact ih (fun b' a' ha' => hf b' a' (List.mem_cons_of_mem _ ha')) _ (hf b a List.mem_cons_self h)

/-- A bit of one memory word turned over leaves the bits in error of every other. -/
theorem badBitsOf_toggleBadBit_of_ne {bad : List Nat} {b j : Nat} (h : b / 72 ≠ j) :
    badBitsOf (toggleBadBit bad b) j = badBitsOf bad j := by
  unfold badBitsOf
  congr 1
  induction bad with
  | nil => simp [toggleBadBit, h]
  | cons c rest ih =>
    unfold toggleBadBit
    split
    · simp [List.filter_cons, h]
    · split
      · rename_i hbc; subst hbc; simp [List.filter_cons, h]
      · simp only [List.filter_cons, ih]

/-- Bits of one memory word turned over leave the bits in error of every other. -/
theorem badBitsOf_foldl_toggle_of_ne {bad : List Nat} {k j : Nat} (h : k ≠ j) (bits : List Nat) :
    badBitsOf (bits.foldl (fun acc b => toggleBadBit acc (72 * k + b % 72)) bad) j = badBitsOf bad j := by
  apply foldl_keeps (fun acc => badBitsOf acc j = badBitsOf bad j)
  · intro acc b hacc
    exact (badBitsOf_toggleBadBit_of_ne (by omega)).trans hacc
  · rfl

/-- A memory word written with fresh check bits has no bit in error. -/
theorem badBitsOf_clearBadBits_same (bad : List Nat) (k : Nat) : badBitsOf (clearBadBits bad k 1) k = [] := by
  unfold badBitsOf clearBadBits
  simp only [List.map_eq_nil_iff, List.filter_eq_nil_iff, List.mem_filter]
  rintro b ⟨_, hb⟩ hk
  simp only [beq_iff_eq] at hk
  simp [hk] at hb

/-- A memory word written with fresh check bits leaves the bits in error of every other. -/
theorem badBitsOf_clearBadBits_of_ne {bad : List Nat} {k j : Nat} (h : k ≠ j) :
    badBitsOf (clearBadBits bad k 1) j = badBitsOf bad j := by
  unfold badBitsOf clearBadBits
  congr 1
  rw [List.filter_filter]
  apply List.filter_congr
  intro b _
  by_cases hj : b / 72 = j
  · have : ¬(k ≤ b / 72 ∧ b / 72 < k + 1) := by omega
    simp only [hj, beq_self_eq_true, Bool.true_and, ← Bool.decide_and, Bool.not_eq_eq_eq_not, Bool.not_true, decide_eq_false_iff_not]
    rw [hj] at this
    exact this
  · simp [hj]

/-- R143: a disturbed memory word keeps its bits in error or reads as corrected or uncorrectable; every other keeps its own. -/
theorem FrameMemory.disturb_badBits (m : FrameMemory) (k j : Nat) (bits : List Nat) :
    badBitsOf (m.disturb k bits).badBits j = badBitsOf m.badBits j ∨ (k = j ∧ (m.disturb k bits).verdict j ≠ .good) := by
  unfold FrameMemory.disturb
  dsimp only
  split
  · exact Or.inl rfl
  · rename_i h
    by_cases e : k = j
    · subst e; exact Or.inr ⟨rfl, h⟩
    · exact Or.inl (badBitsOf_foldl_toggle_of_ne e bits)

/-- The part of LeftByWrite that each step of an abandoned write keeps; `merged` tells which memory words the write merges. -/
def LeftSoFar (m0 full : FrameMemory) (first last : Nat) (merged : Nat → Prop) (m : FrameMemory) : Prop :=
  m.cells.wf = true ∧ (∀ byte, byte / 8 < first ∨ last < byte / 8 → m.cells.read byte = m0.cells.read byte) ∧
    (∀ bit, bit / 72 < first ∨ last < bit / 72 → (bit ∈ m.badBits ↔ bit ∈ m0.badBits)) ∧
    (∀ w, m.cells.readWord w = m0.cells.readWord w ∨ m.cells.readWord w = full.cells.readWord w) ∧
    (∀ k, badBitsOf m.badBits k = badBitsOf m0.badBits k ∨ badBitsOf m.badBits k = [] ∨ (merged k ∧ m.verdict k ≠ .good))

/-- One memory word of the write landing. -/
theorem LeftSoFar.landed {m0 full : FrameMemory} {first last k : Nat} {merged : Nat → Prop} {m : FrameMemory}
    (h : LeftSoFar m0 full first last merged m)
    (h1 : first ≤ k) (h2 : k ≤ last) :
    LeftSoFar m0 full first last merged
      { m with
        cells := m.cells.writeWords (2 * k) [full.cells.readWord (2 * k), full.cells.readWord (2 * k + 1)]
        badBits := clearBadBits m.badBits k 1 } := by
  obtain ⟨hw, hr, hb, hv, hk⟩ := h
  have hw1 := Memory.wf_writeWord hw (2 * k) (full.cells.readWord (2 * k))
  refine ⟨Memory.wf_writeWords hw _ _, ?_, ?_, ?_, ?_⟩
  · intro byte ho
    have e1 : byte / 4 ≠ 2 * k := by omega
    have e2 : byte / 4 ≠ 2 * k + 1 := by omega
    simp only [Memory.writeWords, Memory.read_writeWord hw1 _ _ _ e2, Memory.read_writeWord hw _ _ _ e1]
    exact hr byte ho
  · intro bit ho
    rw [← hb bit ho]
    simp only [clearBadBits, List.mem_filter, and_iff_left_iff_imp]
    intro _
    by_cases hk : k ≤ bit / 72
    · have : ¬bit / 72 < k + 1 := by omega
      simp [hk, this]
    · simp [hk]
  · intro w
    simp only [Memory.writeWords, Memory.readWord_writeWord hw1, Memory.readWord_writeWord hw]
    by_cases e2 : w = 2 * k + 1
    · subst e2; simp
    · by_cases e1 : w = 2 * k
      · subst e1; simp
      · simp only [e1, e2, if_false]; exact hv w
  · intro j
    by_cases e : k = j
    · subst e; exact Or.inr (Or.inl (badBitsOf_clearBadBits_same m.badBits k))
    · unfold FrameMemory.verdict
      simp only [badBitsOf_clearBadBits_of_ne e]
      exact hk j

/-- Bits of a merged memory word of the write turned over. -/
theorem LeftSoFar.disturbed {m0 full : FrameMemory} {first last k : Nat} {merged : Nat → Prop} {m : FrameMemory}
    (h : LeftSoFar m0 full first last merged m) (h1 : first ≤ k) (h2 : k ≤ last) (h3 : merged k) (bits : List Nat) :
    LeftSoFar m0 full first last merged (m.disturb k bits) := by
  obtain ⟨hw, hr, hb, hv, hk⟩ := h
  have hc : (m.disturb k bits).cells = m.cells := by
    unfold FrameMemory.disturb
    dsimp only
    split <;> rfl
  refine ⟨hc ▸ hw, hc ▸ hr, ?_, hc ▸ hv, ?_⟩
  · intro bit ho
    rw [← hb bit ho]
    unfold FrameMemory.disturb
    dsimp only
    split
    · rfl
    · apply foldl_keeps (fun bad : List Nat => (bit ∈ bad ↔ bit ∈ m.badBits))
      · intro bad b hbad
        have : bit ≠ 72 * k + b % 72 := by omega
        exact (mem_toggleBadBit_of_ne this).trans hbad
      · rfl
  · intro j
    rcases m.disturb_badBits k j bits with e | ⟨e, hg⟩
    · unfold FrameMemory.verdict
      rw [e]
      exact hk j
    · exact Or.inr (Or.inr ⟨e ▸ h3, hg⟩)

/-- R133, R140: the memory words that a write of `n` words from `a` on merges: the first at an odd word, the last when it ends in the
middle of one. -/
abbrev Merged (a n k : Nat) : Prop := (a % 2 = 1 ∧ k = a / 2) ∨ ((a + n) % 2 = 1 ∧ k = (a + n - 1) / 2)

/-- R143: what an abandoned write leaves. -/
theorem FrameMemory.leftByWrite_abandon (m : FrameMemory) (draw a : Nat) (ws : List Word) :
    LeftByWrite m a ws (m.abandon draw a ws) := by
  intro hm
  suffices h : LeftSoFar m (m.store a ws) (a / 2) ((a + ws.length - 1) / 2) (Merged a ws.length) (m.abandon draw a ws) from h.2
  have h0 : LeftSoFar m (m.store a ws) (a / 2) ((a + ws.length - 1) / 2) (Merged a ws.length) m :=
    ⟨hm, fun _ _ => rfl, fun _ _ => Iff.rfl, fun _ => Or.inl rfl, fun _ => Or.inl rfl⟩
  unfold FrameMemory.abandon
  apply foldl_keeps_mem (LeftSoFar m (m.store a ws) (a / 2) ((a + ws.length - 1) / 2) (Merged a ws.length))
  · intro acc k hk hacc
    have : a / 2 ≤ k ∧ k ≤ (a + ws.length - 1) / 2 ∧ Merged a ws.length k := by
      rcases List.mem_append.mp hk with hk | hk
      · split at hk
        · rename_i hc; simp only [List.mem_singleton] at hk; omega
        · simp at hk
      · split at hk
        · rename_i hc; simp only [List.mem_singleton] at hk; omega
        · simp at hk
    exact hacc.disturbed this.1 this.2.1 this.2.2 _
  · apply foldl_keeps_mem (LeftSoFar m (m.store a ws) (a / 2) ((a + ws.length - 1) / 2) (Merged a ws.length)) _ _ _ m h0
    intro acc k hk hacc
    split
    · have : a / 2 ≤ k ∧ k ≤ (a + ws.length - 1) / 2 := by
        simp only [List.mem_map, List.mem_range, memoryWordSpan] at hk
        obtain ⟨i, hi, rfl⟩ := hk
        split at hi <;> omega
      exact hacc.landed this.1 this.2
    · exact hacc

end Sys2Proof.Machine
end

