-- ==== Sys2Proof/Laws/State.lean ====
section
/-! SUPPORT. What each update of State leaves as it was, field by field, so that no proof unfolds a record update. -/

namespace Sys2Proof.Machine

variable (s : State) (n : Fin 32) (k : Fin 16) (p : Fin 4) (b : BufferName) (a a2 : Nat) (e : EventKind)
variable (sc : StreamCounter) (lc : SlotCounter) (ic : IngressCounter) (ec : EgressCounter)
variable (rc : ReferenceCounter) (mc : MemoryCounter) (fb : Buffer → Buffer) (fc : StreamContext → StreamContext)
variable (fs : SlotContext → SlotContext) (fu : EmissionUnit → EmissionUnit) (fr : Route → Route)
variable (ff : Reference → Reference) (fa : Arbiter → Arbiter) (fe : EgressPort → EgressPort) (rq : List (List Word))

/-! ## countStream -/

@[simp] theorem countStream_ingress : (countStream n sc s).ingress = s.ingress := rfl
@[simp] theorem countStream_dispatcher : (countStream n sc s).dispatcher = s.dispatcher := rfl
@[simp] theorem countStream_egress : (countStream n sc s).egress = s.egress := rfl
@[simp] theorem countStream_replyPort : (countStream n sc s).replyPort = s.replyPort := rfl
@[simp] theorem countStream_reference : (countStream n sc s).reference = s.reference := rfl
@[simp] theorem countStream_entries : (countStream n sc s).entries = s.entries := rfl
@[simp] theorem countStream_contexts : (countStream n sc s).contexts = s.contexts := rfl
@[simp] theorem countStream_rings : (countStream n sc s).rings = s.rings := rfl
@[simp] theorem countStream_routes : (countStream n sc s).routes = s.routes := rfl
@[simp] theorem countStream_slots : (countStream n sc s).slots = s.slots := rfl
@[simp] theorem countStream_emissions : (countStream n sc s).emissions = s.emissions := rfl
@[simp] theorem countStream_writeQueue : (countStream n sc s).writeQueue = s.writeQueue := rfl
@[simp] theorem countStream_arbiter : (countStream n sc s).arbiter = s.arbiter := rfl
@[simp] theorem countStream_memory : (countStream n sc s).memory = s.memory := rfl
@[simp] theorem countStream_counterMode : (countStream n sc s).counterMode = s.counterMode := rfl
@[simp] theorem countStream_snapshot : (countStream n sc s).snapshot = s.snapshot := rfl
@[simp] theorem countStream_generator : (countStream n sc s).generator = s.generator := rfl
@[simp] theorem countStream_checker : (countStream n sc s).checker = s.checker := rfl
@[simp] theorem countStream_checkerBank : (countStream n sc s).checkerBank = s.checkerBank := rfl
@[simp] theorem countStream_faults : (countStream n sc s).faults = s.faults := rfl
@[simp] theorem countStream_latches : (countStream n sc s).latches = s.latches := rfl
@[simp] theorem countStream_requestQueue : (countStream n sc s).requestQueue = s.requestQueue := rfl
@[simp] theorem countStream_executor : (countStream n sc s).executor = s.executor := rfl
@[simp] theorem countStream_replyQueue : (countStream n sc s).replyQueue = s.replyQueue := rfl
@[simp] theorem countStream_lastResetCause : (countStream n sc s).lastResetCause = s.lastResetCause := rfl
@[simp] theorem countStream_resetHeld : (countStream n sc s).resetHeld = s.resetHeld := rfl
@[simp] theorem countStream_timebaseRuns : (countStream n sc s).timebaseRuns = s.timebaseRuns := rfl
@[simp] theorem countStream_pending : (countStream n sc s).pending = s.pending := rfl
@[simp] theorem countStream_upsets : (countStream n sc s).upsets = s.upsets := rfl
@[simp] theorem countStream_freeCount : (countStream n sc s).freeCount = s.freeCount := rfl

/-! ## countSlot -/

@[simp] theorem countSlot_ingress : (countSlot k lc a s).ingress = s.ingress := rfl
@[simp] theorem countSlot_dispatcher : (countSlot k lc a s).dispatcher = s.dispatcher := rfl
@[simp] theorem countSlot_egress : (countSlot k lc a s).egress = s.egress := rfl
@[simp] theorem countSlot_replyPort : (countSlot k lc a s).replyPort = s.replyPort := rfl
@[simp] theorem countSlot_reference : (countSlot k lc a s).reference = s.reference := rfl
@[simp] theorem countSlot_entries : (countSlot k lc a s).entries = s.entries := rfl
@[simp] theorem countSlot_contexts : (countSlot k lc a s).contexts = s.contexts := rfl
@[simp] theorem countSlot_rings : (countSlot k lc a s).rings = s.rings := rfl
@[simp] theorem countSlot_routes : (countSlot k lc a s).routes = s.routes := rfl
@[simp] theorem countSlot_slots : (countSlot k lc a s).slots = s.slots := rfl
@[simp] theorem countSlot_emissions : (countSlot k lc a s).emissions = s.emissions := rfl
@[simp] theorem countSlot_writeQueue : (countSlot k lc a s).writeQueue = s.writeQueue := rfl
@[simp] theorem countSlot_arbiter : (countSlot k lc a s).arbiter = s.arbiter := rfl
@[simp] theorem countSlot_memory : (countSlot k lc a s).memory = s.memory := rfl
@[simp] theorem countSlot_counterMode : (countSlot k lc a s).counterMode = s.counterMode := rfl
@[simp] theorem countSlot_snapshot : (countSlot k lc a s).snapshot = s.snapshot := rfl
@[simp] theorem countSlot_generator : (countSlot k lc a s).generator = s.generator := rfl
@[simp] theorem countSlot_checker : (countSlot k lc a s).checker = s.checker := rfl
@[simp] theorem countSlot_checkerBank : (countSlot k lc a s).checkerBank = s.checkerBank := rfl
@[simp] theorem countSlot_faults : (countSlot k lc a s).faults = s.faults := rfl
@[simp] theorem countSlot_latches : (countSlot k lc a s).latches = s.latches := rfl
@[simp] theorem countSlot_requestQueue : (countSlot k lc a s).requestQueue = s.requestQueue := rfl
@[simp] theorem countSlot_executor : (countSlot k lc a s).executor = s.executor := rfl
@[simp] theorem countSlot_replyQueue : (countSlot k lc a s).replyQueue = s.replyQueue := rfl
@[simp] theorem countSlot_lastResetCause : (countSlot k lc a s).lastResetCause = s.lastResetCause := rfl
@[simp] theorem countSlot_resetHeld : (countSlot k lc a s).resetHeld = s.resetHeld := rfl
@[simp] theorem countSlot_timebaseRuns : (countSlot k lc a s).timebaseRuns = s.timebaseRuns := rfl
@[simp] theorem countSlot_pending : (countSlot k lc a s).pending = s.pending := rfl
@[simp] theorem countSlot_upsets : (countSlot k lc a s).upsets = s.upsets := rfl
@[simp] theorem countSlot_freeCount : (countSlot k lc a s).freeCount = s.freeCount := rfl

/-! ## countIngress -/

@[simp] theorem countIngress_ingress : (countIngress p ic s).ingress = s.ingress := rfl
@[simp] theorem countIngress_dispatcher : (countIngress p ic s).dispatcher = s.dispatcher := rfl
@[simp] theorem countIngress_egress : (countIngress p ic s).egress = s.egress := rfl
@[simp] theorem countIngress_replyPort : (countIngress p ic s).replyPort = s.replyPort := rfl
@[simp] theorem countIngress_reference : (countIngress p ic s).reference = s.reference := rfl
@[simp] theorem countIngress_entries : (countIngress p ic s).entries = s.entries := rfl
@[simp] theorem countIngress_contexts : (countIngress p ic s).contexts = s.contexts := rfl
@[simp] theorem countIngress_rings : (countIngress p ic s).rings = s.rings := rfl
@[simp] theorem countIngress_routes : (countIngress p ic s).routes = s.routes := rfl
@[simp] theorem countIngress_slots : (countIngress p ic s).slots = s.slots := rfl
@[simp] theorem countIngress_emissions : (countIngress p ic s).emissions = s.emissions := rfl
@[simp] theorem countIngress_writeQueue : (countIngress p ic s).writeQueue = s.writeQueue := rfl
@[simp] theorem countIngress_arbiter : (countIngress p ic s).arbiter = s.arbiter := rfl
@[simp] theorem countIngress_memory : (countIngress p ic s).memory = s.memory := rfl
@[simp] theorem countIngress_counterMode : (countIngress p ic s).counterMode = s.counterMode := rfl
@[simp] theorem countIngress_snapshot : (countIngress p ic s).snapshot = s.snapshot := rfl
@[simp] theorem countIngress_generator : (countIngress p ic s).generator = s.generator := rfl
@[simp] theorem countIngress_checker : (countIngress p ic s).checker = s.checker := rfl
@[simp] theorem countIngress_checkerBank : (countIngress p ic s).checkerBank = s.checkerBank := rfl
@[simp] theorem countIngress_faults : (countIngress p ic s).faults = s.faults := rfl
@[simp] theorem countIngress_latches : (countIngress p ic s).latches = s.latches := rfl
@[simp] theorem countIngress_requestQueue : (countIngress p ic s).requestQueue = s.requestQueue := rfl
@[simp] theorem countIngress_executor : (countIngress p ic s).executor = s.executor := rfl
@[simp] theorem countIngress_replyQueue : (countIngress p ic s).replyQueue = s.replyQueue := rfl
@[simp] theorem countIngress_lastResetCause : (countIngress p ic s).lastResetCause = s.lastResetCause := rfl
@[simp] theorem countIngress_resetHeld : (countIngress p ic s).resetHeld = s.resetHeld := rfl
@[simp] theorem countIngress_timebaseRuns : (countIngress p ic s).timebaseRuns = s.timebaseRuns := rfl
@[simp] theorem countIngress_pending : (countIngress p ic s).pending = s.pending := rfl
@[simp] theorem countIngress_upsets : (countIngress p ic s).upsets = s.upsets := rfl
@[simp] theorem countIngress_freeCount : (countIngress p ic s).freeCount = s.freeCount := rfl

/-! ## countEgress -/

@[simp] theorem countEgress_ingress : (countEgress p ec s).ingress = s.ingress := rfl
@[simp] theorem countEgress_dispatcher : (countEgress p ec s).dispatcher = s.dispatcher := rfl
@[simp] theorem countEgress_egress : (countEgress p ec s).egress = s.egress := rfl
@[simp] theorem countEgress_replyPort : (countEgress p ec s).replyPort = s.replyPort := rfl
@[simp] theorem countEgress_reference : (countEgress p ec s).reference = s.reference := rfl
@[simp] theorem countEgress_entries : (countEgress p ec s).entries = s.entries := rfl
@[simp] theorem countEgress_contexts : (countEgress p ec s).contexts = s.contexts := rfl
@[simp] theorem countEgress_rings : (countEgress p ec s).rings = s.rings := rfl
@[simp] theorem countEgress_routes : (countEgress p ec s).routes = s.routes := rfl
@[simp] theorem countEgress_slots : (countEgress p ec s).slots = s.slots := rfl
@[simp] theorem countEgress_emissions : (countEgress p ec s).emissions = s.emissions := rfl
@[simp] theorem countEgress_writeQueue : (countEgress p ec s).writeQueue = s.writeQueue := rfl
@[simp] theorem countEgress_arbiter : (countEgress p ec s).arbiter = s.arbiter := rfl
@[simp] theorem countEgress_memory : (countEgress p ec s).memory = s.memory := rfl
@[simp] theorem countEgress_counterMode : (countEgress p ec s).counterMode = s.counterMode := rfl
@[simp] theorem countEgress_snapshot : (countEgress p ec s).snapshot = s.snapshot := rfl
@[simp] theorem countEgress_generator : (countEgress p ec s).generator = s.generator := rfl
@[simp] theorem countEgress_checker : (countEgress p ec s).checker = s.checker := rfl
@[simp] theorem countEgress_checkerBank : (countEgress p ec s).checkerBank = s.checkerBank := rfl
@[simp] theorem countEgress_faults : (countEgress p ec s).faults = s.faults := rfl
@[simp] theorem countEgress_latches : (countEgress p ec s).latches = s.latches := rfl
@[simp] theorem countEgress_requestQueue : (countEgress p ec s).requestQueue = s.requestQueue := rfl
@[simp] theorem countEgress_executor : (countEgress p ec s).executor = s.executor := rfl
@[simp] theorem countEgress_replyQueue : (countEgress p ec s).replyQueue = s.replyQueue := rfl
@[simp] theorem countEgress_lastResetCause : (countEgress p ec s).lastResetCause = s.lastResetCause := rfl
@[simp] theorem countEgress_resetHeld : (countEgress p ec s).resetHeld = s.resetHeld := rfl
@[simp] theorem countEgress_timebaseRuns : (countEgress p ec s).timebaseRuns = s.timebaseRuns := rfl
@[simp] theorem countEgress_pending : (countEgress p ec s).pending = s.pending := rfl
@[simp] theorem countEgress_upsets : (countEgress p ec s).upsets = s.upsets := rfl
@[simp] theorem countEgress_freeCount : (countEgress p ec s).freeCount = s.freeCount := rfl

/-! ## countReference -/

@[simp] theorem countReference_ingress : (countReference rc s).ingress = s.ingress := rfl
@[simp] theorem countReference_dispatcher : (countReference rc s).dispatcher = s.dispatcher := rfl
@[simp] theorem countReference_egress : (countReference rc s).egress = s.egress := rfl
@[simp] theorem countReference_replyPort : (countReference rc s).replyPort = s.replyPort := rfl
@[simp] theorem countReference_reference : (countReference rc s).reference = s.reference := rfl
@[simp] theorem countReference_entries : (countReference rc s).entries = s.entries := rfl
@[simp] theorem countReference_contexts : (countReference rc s).contexts = s.contexts := rfl
@[simp] theorem countReference_rings : (countReference rc s).rings = s.rings := rfl
@[simp] theorem countReference_routes : (countReference rc s).routes = s.routes := rfl
@[simp] theorem countReference_slots : (countReference rc s).slots = s.slots := rfl
@[simp] theorem countReference_emissions : (countReference rc s).emissions = s.emissions := rfl
@[simp] theorem countReference_writeQueue : (countReference rc s).writeQueue = s.writeQueue := rfl
@[simp] theorem countReference_arbiter : (countReference rc s).arbiter = s.arbiter := rfl
@[simp] theorem countReference_memory : (countReference rc s).memory = s.memory := rfl
@[simp] theorem countReference_counterMode : (countReference rc s).counterMode = s.counterMode := rfl
@[simp] theorem countReference_snapshot : (countReference rc s).snapshot = s.snapshot := rfl
@[simp] theorem countReference_generator : (countReference rc s).generator = s.generator := rfl
@[simp] theorem countReference_checker : (countReference rc s).checker = s.checker := rfl
@[simp] theorem countReference_checkerBank : (countReference rc s).checkerBank = s.checkerBank := rfl
@[simp] theorem countReference_faults : (countReference rc s).faults = s.faults := rfl
@[simp] theorem countReference_latches : (countReference rc s).latches = s.latches := rfl
@[simp] theorem countReference_requestQueue : (countReference rc s).requestQueue = s.requestQueue := rfl
@[simp] theorem countReference_executor : (countReference rc s).executor = s.executor := rfl
@[simp] theorem countReference_replyQueue : (countReference rc s).replyQueue = s.replyQueue := rfl
@[simp] theorem countReference_lastResetCause : (countReference rc s).lastResetCause = s.lastResetCause := rfl
@[simp] theorem countReference_resetHeld : (countReference rc s).resetHeld = s.resetHeld := rfl
@[simp] theorem countReference_timebaseRuns : (countReference rc s).timebaseRuns = s.timebaseRuns := rfl
@[simp] theorem countReference_pending : (countReference rc s).pending = s.pending := rfl
@[simp] theorem countReference_upsets : (countReference rc s).upsets = s.upsets := rfl
@[simp] theorem countReference_freeCount : (countReference rc s).freeCount = s.freeCount := rfl

/-! ## countMemory -/

@[simp] theorem countMemory_ingress : (countMemory mc s).ingress = s.ingress := rfl
@[simp] theorem countMemory_dispatcher : (countMemory mc s).dispatcher = s.dispatcher := rfl
@[simp] theorem countMemory_egress : (countMemory mc s).egress = s.egress := rfl
@[simp] theorem countMemory_replyPort : (countMemory mc s).replyPort = s.replyPort := rfl
@[simp] theorem countMemory_reference : (countMemory mc s).reference = s.reference := rfl
@[simp] theorem countMemory_entries : (countMemory mc s).entries = s.entries := rfl
@[simp] theorem countMemory_contexts : (countMemory mc s).contexts = s.contexts := rfl
@[simp] theorem countMemory_rings : (countMemory mc s).rings = s.rings := rfl
@[simp] theorem countMemory_routes : (countMemory mc s).routes = s.routes := rfl
@[simp] theorem countMemory_slots : (countMemory mc s).slots = s.slots := rfl
@[simp] theorem countMemory_emissions : (countMemory mc s).emissions = s.emissions := rfl
@[simp] theorem countMemory_writeQueue : (countMemory mc s).writeQueue = s.writeQueue := rfl
@[simp] theorem countMemory_arbiter : (countMemory mc s).arbiter = s.arbiter := rfl
@[simp] theorem countMemory_memory : (countMemory mc s).memory = s.memory := rfl
@[simp] theorem countMemory_counterMode : (countMemory mc s).counterMode = s.counterMode := rfl
@[simp] theorem countMemory_snapshot : (countMemory mc s).snapshot = s.snapshot := rfl
@[simp] theorem countMemory_generator : (countMemory mc s).generator = s.generator := rfl
@[simp] theorem countMemory_checker : (countMemory mc s).checker = s.checker := rfl
@[simp] theorem countMemory_checkerBank : (countMemory mc s).checkerBank = s.checkerBank := rfl
@[simp] theorem countMemory_faults : (countMemory mc s).faults = s.faults := rfl
@[simp] theorem countMemory_latches : (countMemory mc s).latches = s.latches := rfl
@[simp] theorem countMemory_requestQueue : (countMemory mc s).requestQueue = s.requestQueue := rfl
@[simp] theorem countMemory_executor : (countMemory mc s).executor = s.executor := rfl
@[simp] theorem countMemory_replyQueue : (countMemory mc s).replyQueue = s.replyQueue := rfl
@[simp] theorem countMemory_lastResetCause : (countMemory mc s).lastResetCause = s.lastResetCause := rfl
@[simp] theorem countMemory_resetHeld : (countMemory mc s).resetHeld = s.resetHeld := rfl
@[simp] theorem countMemory_timebaseRuns : (countMemory mc s).timebaseRuns = s.timebaseRuns := rfl
@[simp] theorem countMemory_pending : (countMemory mc s).pending = s.pending := rfl
@[simp] theorem countMemory_upsets : (countMemory mc s).upsets = s.upsets := rfl
@[simp] theorem countMemory_freeCount : (countMemory mc s).freeCount = s.freeCount := rfl

/-! ## raise -/

@[simp] theorem raise_ingress : (raise e a a2 s).ingress = s.ingress := rfl
@[simp] theorem raise_dispatcher : (raise e a a2 s).dispatcher = s.dispatcher := rfl
@[simp] theorem raise_egress : (raise e a a2 s).egress = s.egress := rfl
@[simp] theorem raise_replyPort : (raise e a a2 s).replyPort = s.replyPort := rfl
@[simp] theorem raise_reference : (raise e a a2 s).reference = s.reference := rfl
@[simp] theorem raise_entries : (raise e a a2 s).entries = s.entries := rfl
@[simp] theorem raise_contexts : (raise e a a2 s).contexts = s.contexts := rfl
@[simp] theorem raise_rings : (raise e a a2 s).rings = s.rings := rfl
@[simp] theorem raise_routes : (raise e a a2 s).routes = s.routes := rfl
@[simp] theorem raise_slots : (raise e a a2 s).slots = s.slots := rfl
@[simp] theorem raise_emissions : (raise e a a2 s).emissions = s.emissions := rfl
@[simp] theorem raise_writeQueue : (raise e a a2 s).writeQueue = s.writeQueue := rfl
@[simp] theorem raise_arbiter : (raise e a a2 s).arbiter = s.arbiter := rfl
@[simp] theorem raise_memory : (raise e a a2 s).memory = s.memory := rfl
@[simp] theorem raise_counterMode : (raise e a a2 s).counterMode = s.counterMode := rfl
@[simp] theorem raise_live : (raise e a a2 s).live = s.live := rfl
@[simp] theorem raise_snapshot : (raise e a a2 s).snapshot = s.snapshot := rfl
@[simp] theorem raise_generator : (raise e a a2 s).generator = s.generator := rfl
@[simp] theorem raise_checker : (raise e a a2 s).checker = s.checker := rfl
@[simp] theorem raise_checkerBank : (raise e a a2 s).checkerBank = s.checkerBank := rfl
@[simp] theorem raise_faults : (raise e a a2 s).faults = s.faults := rfl
@[simp] theorem raise_requestQueue : (raise e a a2 s).requestQueue = s.requestQueue := rfl
@[simp] theorem raise_executor : (raise e a a2 s).executor = s.executor := rfl
@[simp] theorem raise_replyQueue : (raise e a a2 s).replyQueue = s.replyQueue := rfl
@[simp] theorem raise_lastResetCause : (raise e a a2 s).lastResetCause = s.lastResetCause := rfl
@[simp] theorem raise_resetHeld : (raise e a a2 s).resetHeld = s.resetHeld := rfl
@[simp] theorem raise_timebaseRuns : (raise e a a2 s).timebaseRuns = s.timebaseRuns := rfl
@[simp] theorem raise_pending : (raise e a a2 s).pending = s.pending := rfl
@[simp] theorem raise_upsets : (raise e a a2 s).upsets = s.upsets := rfl
@[simp] theorem raise_freeCount : (raise e a a2 s).freeCount = s.freeCount := rfl

/-! ## modifyBuffer -/

@[simp] theorem modifyBuffer_ingress : (modifyBuffer b fb s).ingress = s.ingress := rfl
@[simp] theorem modifyBuffer_dispatcher : (modifyBuffer b fb s).dispatcher = s.dispatcher := rfl
@[simp] theorem modifyBuffer_egress : (modifyBuffer b fb s).egress = s.egress := rfl
@[simp] theorem modifyBuffer_replyPort : (modifyBuffer b fb s).replyPort = s.replyPort := rfl
@[simp] theorem modifyBuffer_reference : (modifyBuffer b fb s).reference = s.reference := rfl
@[simp] theorem modifyBuffer_entries : (modifyBuffer b fb s).entries = s.entries := rfl
@[simp] theorem modifyBuffer_contexts : (modifyBuffer b fb s).contexts = s.contexts := rfl
@[simp] theorem modifyBuffer_routes : (modifyBuffer b fb s).routes = s.routes := rfl
@[simp] theorem modifyBuffer_slots : (modifyBuffer b fb s).slots = s.slots := rfl
@[simp] theorem modifyBuffer_emissions : (modifyBuffer b fb s).emissions = s.emissions := rfl
@[simp] theorem modifyBuffer_writeQueue : (modifyBuffer b fb s).writeQueue = s.writeQueue := rfl
@[simp] theorem modifyBuffer_arbiter : (modifyBuffer b fb s).arbiter = s.arbiter := rfl
@[simp] theorem modifyBuffer_memory : (modifyBuffer b fb s).memory = s.memory := rfl
@[simp] theorem modifyBuffer_counterMode : (modifyBuffer b fb s).counterMode = s.counterMode := rfl
@[simp] theorem modifyBuffer_live : (modifyBuffer b fb s).live = s.live := rfl
@[simp] theorem modifyBuffer_snapshot : (modifyBuffer b fb s).snapshot = s.snapshot := rfl
@[simp] theorem modifyBuffer_generator : (modifyBuffer b fb s).generator = s.generator := rfl
@[simp] theorem modifyBuffer_checker : (modifyBuffer b fb s).checker = s.checker := rfl
@[simp] theorem modifyBuffer_checkerBank : (modifyBuffer b fb s).checkerBank = s.checkerBank := rfl
@[simp] theorem modifyBuffer_faults : (modifyBuffer b fb s).faults = s.faults := rfl
@[simp] theorem modifyBuffer_latches : (modifyBuffer b fb s).latches = s.latches := rfl
@[simp] theorem modifyBuffer_requestQueue : (modifyBuffer b fb s).requestQueue = s.requestQueue := rfl
@[simp] theorem modifyBuffer_executor : (modifyBuffer b fb s).executor = s.executor := rfl
@[simp] theorem modifyBuffer_replyQueue : (modifyBuffer b fb s).replyQueue = s.replyQueue := rfl
@[simp] theorem modifyBuffer_lastResetCause : (modifyBuffer b fb s).lastResetCause = s.lastResetCause := rfl
@[simp] theorem modifyBuffer_resetHeld : (modifyBuffer b fb s).resetHeld = s.resetHeld := rfl
@[simp] theorem modifyBuffer_timebaseRuns : (modifyBuffer b fb s).timebaseRuns = s.timebaseRuns := rfl
@[simp] theorem modifyBuffer_pending : (modifyBuffer b fb s).pending = s.pending := rfl
@[simp] theorem modifyBuffer_upsets : (modifyBuffer b fb s).upsets = s.upsets := rfl
@[simp] theorem modifyBuffer_freeCount : (modifyBuffer b fb s).freeCount = s.freeCount := rfl

/-! ## modifyRing -/

@[simp] theorem modifyRing_ingress : (modifyRing n fb s).ingress = s.ingress := rfl
@[simp] theorem modifyRing_dispatcher : (modifyRing n fb s).dispatcher = s.dispatcher := rfl
@[simp] theorem modifyRing_egress : (modifyRing n fb s).egress = s.egress := rfl
@[simp] theorem modifyRing_replyPort : (modifyRing n fb s).replyPort = s.replyPort := rfl
@[simp] theorem modifyRing_reference : (modifyRing n fb s).reference = s.reference := rfl
@[simp] theorem modifyRing_entries : (modifyRing n fb s).entries = s.entries := rfl
@[simp] theorem modifyRing_contexts : (modifyRing n fb s).contexts = s.contexts := rfl
@[simp] theorem modifyRing_routes : (modifyRing n fb s).routes = s.routes := rfl
@[simp] theorem modifyRing_slots : (modifyRing n fb s).slots = s.slots := rfl
@[simp] theorem modifyRing_emissions : (modifyRing n fb s).emissions = s.emissions := rfl
@[simp] theorem modifyRing_writeQueue : (modifyRing n fb s).writeQueue = s.writeQueue := rfl
@[simp] theorem modifyRing_arbiter : (modifyRing n fb s).arbiter = s.arbiter := rfl
@[simp] theorem modifyRing_memory : (modifyRing n fb s).memory = s.memory := rfl
@[simp] theorem modifyRing_counterMode : (modifyRing n fb s).counterMode = s.counterMode := rfl
@[simp] theorem modifyRing_live : (modifyRing n fb s).live = s.live := rfl
@[simp] theorem modifyRing_snapshot : (modifyRing n fb s).snapshot = s.snapshot := rfl
@[simp] theorem modifyRing_generator : (modifyRing n fb s).generator = s.generator := rfl
@[simp] theorem modifyRing_checker : (modifyRing n fb s).checker = s.checker := rfl
@[simp] theorem modifyRing_checkerBank : (modifyRing n fb s).checkerBank = s.checkerBank := rfl
@[simp] theorem modifyRing_faults : (modifyRing n fb s).faults = s.faults := rfl
@[simp] theorem modifyRing_latches : (modifyRing n fb s).latches = s.latches := rfl
@[simp] theorem modifyRing_requestQueue : (modifyRing n fb s).requestQueue = s.requestQueue := rfl
@[simp] theorem modifyRing_executor : (modifyRing n fb s).executor = s.executor := rfl
@[simp] theorem modifyRing_replyQueue : (modifyRing n fb s).replyQueue = s.replyQueue := rfl
@[simp] theorem modifyRing_lastResetCause : (modifyRing n fb s).lastResetCause = s.lastResetCause := rfl
@[simp] theorem modifyRing_resetHeld : (modifyRing n fb s).resetHeld = s.resetHeld := rfl
@[simp] theorem modifyRing_timebaseRuns : (modifyRing n fb s).timebaseRuns = s.timebaseRuns := rfl
@[simp] theorem modifyRing_pending : (modifyRing n fb s).pending = s.pending := rfl
@[simp] theorem modifyRing_upsets : (modifyRing n fb s).upsets = s.upsets := rfl
@[simp] theorem modifyRing_freeCount : (modifyRing n fb s).freeCount = s.freeCount := rfl

/-! ## modifyContext -/

@[simp] theorem modifyContext_ingress : (modifyContext n fc s).ingress = s.ingress := rfl
@[simp] theorem modifyContext_dispatcher : (modifyContext n fc s).dispatcher = s.dispatcher := rfl
@[simp] theorem modifyContext_egress : (modifyContext n fc s).egress = s.egress := rfl
@[simp] theorem modifyContext_replyPort : (modifyContext n fc s).replyPort = s.replyPort := rfl
@[simp] theorem modifyContext_reference : (modifyContext n fc s).reference = s.reference := rfl
@[simp] theorem modifyContext_entries : (modifyContext n fc s).entries = s.entries := rfl
@[simp] theorem modifyContext_rings : (modifyContext n fc s).rings = s.rings := rfl
@[simp] theorem modifyContext_routes : (modifyContext n fc s).routes = s.routes := rfl
@[simp] theorem modifyContext_slots : (modifyContext n fc s).slots = s.slots := rfl
@[simp] theorem modifyContext_emissions : (modifyContext n fc s).emissions = s.emissions := rfl
@[simp] theorem modifyContext_writeQueue : (modifyContext n fc s).writeQueue = s.writeQueue := rfl
@[simp] theorem modifyContext_arbiter : (modifyContext n fc s).arbiter = s.arbiter := rfl
@[simp] theorem modifyContext_memory : (modifyContext n fc s).memory = s.memory := rfl
@[simp] theorem modifyContext_counterMode : (modifyContext n fc s).counterMode = s.counterMode := rfl
@[simp] theorem modifyContext_live : (modifyContext n fc s).live = s.live := rfl
@[simp] theorem modifyContext_snapshot : (modifyContext n fc s).snapshot = s.snapshot := rfl
@[simp] theorem modifyContext_generator : (modifyContext n fc s).generator = s.generator := rfl
@[simp] theorem modifyContext_checker : (modifyContext n fc s).checker = s.checker := rfl
@[simp] theorem modifyContext_checkerBank : (modifyContext n fc s).checkerBank = s.checkerBank := rfl
@[simp] theorem modifyContext_faults : (modifyContext n fc s).faults = s.faults := rfl
@[simp] theorem modifyContext_latches : (modifyContext n fc s).latches = s.latches := rfl
@[simp] theorem modifyContext_requestQueue : (modifyContext n fc s).requestQueue = s.requestQueue := rfl
@[simp] theorem modifyContext_executor : (modifyContext n fc s).executor = s.executor := rfl
@[simp] theorem modifyContext_replyQueue : (modifyContext n fc s).replyQueue = s.replyQueue := rfl
@[simp] theorem modifyContext_lastResetCause : (modifyContext n fc s).lastResetCause = s.lastResetCause := rfl
@[simp] theorem modifyContext_resetHeld : (modifyContext n fc s).resetHeld = s.resetHeld := rfl
@[simp] theorem modifyContext_timebaseRuns : (modifyContext n fc s).timebaseRuns = s.timebaseRuns := rfl
@[simp] theorem modifyContext_pending : (modifyContext n fc s).pending = s.pending := rfl
@[simp] theorem modifyContext_upsets : (modifyContext n fc s).upsets = s.upsets := rfl
@[simp] theorem modifyContext_freeCount : (modifyContext n fc s).freeCount = s.freeCount := rfl

/-! ## modifySlot -/

@[simp] theorem modifySlot_ingress : (modifySlot k fs s).ingress = s.ingress := rfl
@[simp] theorem modifySlot_dispatcher : (modifySlot k fs s).dispatcher = s.dispatcher := rfl
@[simp] theorem modifySlot_egress : (modifySlot k fs s).egress = s.egress := rfl
@[simp] theorem modifySlot_replyPort : (modifySlot k fs s).replyPort = s.replyPort := rfl
@[simp] theorem modifySlot_reference : (modifySlot k fs s).reference = s.reference := rfl
@[simp] theorem modifySlot_entries : (modifySlot k fs s).entries = s.entries := rfl
@[simp] theorem modifySlot_contexts : (modifySlot k fs s).contexts = s.contexts := rfl
@[simp] theorem modifySlot_rings : (modifySlot k fs s).rings = s.rings := rfl
@[simp] theorem modifySlot_routes : (modifySlot k fs s).routes = s.routes := rfl
@[simp] theorem modifySlot_emissions : (modifySlot k fs s).emissions = s.emissions := rfl
@[simp] theorem modifySlot_writeQueue : (modifySlot k fs s).writeQueue = s.writeQueue := rfl
@[simp] theorem modifySlot_arbiter : (modifySlot k fs s).arbiter = s.arbiter := rfl
@[simp] theorem modifySlot_memory : (modifySlot k fs s).memory = s.memory := rfl
@[simp] theorem modifySlot_counterMode : (modifySlot k fs s).counterMode = s.counterMode := rfl
@[simp] theorem modifySlot_live : (modifySlot k fs s).live = s.live := rfl
@[simp] theorem modifySlot_snapshot : (modifySlot k fs s).snapshot = s.snapshot := rfl
@[simp] theorem modifySlot_generator : (modifySlot k fs s).generator = s.generator := rfl
@[simp] theorem modifySlot_checker : (modifySlot k fs s).checker = s.checker := rfl
@[simp] theorem modifySlot_checkerBank : (modifySlot k fs s).checkerBank = s.checkerBank := rfl
@[simp] theorem modifySlot_faults : (modifySlot k fs s).faults = s.faults := rfl
@[simp] theorem modifySlot_latches : (modifySlot k fs s).latches = s.latches := rfl
@[simp] theorem modifySlot_requestQueue : (modifySlot k fs s).requestQueue = s.requestQueue := rfl
@[simp] theorem modifySlot_executor : (modifySlot k fs s).executor = s.executor := rfl
@[simp] theorem modifySlot_replyQueue : (modifySlot k fs s).replyQueue = s.replyQueue := rfl
@[simp] theorem modifySlot_lastResetCause : (modifySlot k fs s).lastResetCause = s.lastResetCause := rfl
@[simp] theorem modifySlot_resetHeld : (modifySlot k fs s).resetHeld = s.resetHeld := rfl
@[simp] theorem modifySlot_timebaseRuns : (modifySlot k fs s).timebaseRuns = s.timebaseRuns := rfl
@[simp] theorem modifySlot_pending : (modifySlot k fs s).pending = s.pending := rfl
@[simp] theorem modifySlot_upsets : (modifySlot k fs s).upsets = s.upsets := rfl
@[simp] theorem modifySlot_freeCount : (modifySlot k fs s).freeCount = s.freeCount := rfl

/-! ## modifyEmission -/

@[simp] theorem modifyEmission_ingress : (modifyEmission k fu s).ingress = s.ingress := rfl
@[simp] theorem modifyEmission_dispatcher : (modifyEmission k fu s).dispatcher = s.dispatcher := rfl
@[simp] theorem modifyEmission_egress : (modifyEmission k fu s).egress = s.egress := rfl
@[simp] theorem modifyEmission_replyPort : (modifyEmission k fu s).replyPort = s.replyPort := rfl
@[simp] theorem modifyEmission_reference : (modifyEmission k fu s).reference = s.reference := rfl
@[simp] theorem modifyEmission_entries : (modifyEmission k fu s).entries = s.entries := rfl
@[simp] theorem modifyEmission_contexts : (modifyEmission k fu s).contexts = s.contexts := rfl
@[simp] theorem modifyEmission_rings : (modifyEmission k fu s).rings = s.rings := rfl
@[simp] theorem modifyEmission_routes : (modifyEmission k fu s).routes = s.routes := rfl
@[simp] theorem modifyEmission_slots : (modifyEmission k fu s).slots = s.slots := rfl
@[simp] theorem modifyEmission_writeQueue : (modifyEmission k fu s).writeQueue = s.writeQueue := rfl
@[simp] theorem modifyEmission_arbiter : (modifyEmission k fu s).arbiter = s.arbiter := rfl
@[simp] theorem modifyEmission_memory : (modifyEmission k fu s).memory = s.memory := rfl
@[simp] theorem modifyEmission_counterMode : (modifyEmission k fu s).counterMode = s.counterMode := rfl
@[simp] theorem modifyEmission_live : (modifyEmission k fu s).live = s.live := rfl
@[simp] theorem modifyEmission_snapshot : (modifyEmission k fu s).snapshot = s.snapshot := rfl
@[simp] theorem modifyEmission_generator : (modifyEmission k fu s).generator = s.generator := rfl
@[simp] theorem modifyEmission_checker : (modifyEmission k fu s).checker = s.checker := rfl
@[simp] theorem modifyEmission_checkerBank : (modifyEmission k fu s).checkerBank = s.checkerBank := rfl
@[simp] theorem modifyEmission_faults : (modifyEmission k fu s).faults = s.faults := rfl
@[simp] theorem modifyEmission_latches : (modifyEmission k fu s).latches = s.latches := rfl
@[simp] theorem modifyEmission_requestQueue : (modifyEmission k fu s).requestQueue = s.requestQueue := rfl
@[simp] theorem modifyEmission_executor : (modifyEmission k fu s).executor = s.executor := rfl
@[simp] theorem modifyEmission_replyQueue : (modifyEmission k fu s).replyQueue = s.replyQueue := rfl
@[simp] theorem modifyEmission_lastResetCause : (modifyEmission k fu s).lastResetCause = s.lastResetCause := rfl
@[simp] theorem modifyEmission_resetHeld : (modifyEmission k fu s).resetHeld = s.resetHeld := rfl
@[simp] theorem modifyEmission_timebaseRuns : (modifyEmission k fu s).timebaseRuns = s.timebaseRuns := rfl
@[simp] theorem modifyEmission_pending : (modifyEmission k fu s).pending = s.pending := rfl
@[simp] theorem modifyEmission_upsets : (modifyEmission k fu s).upsets = s.upsets := rfl
@[simp] theorem modifyEmission_freeCount : (modifyEmission k fu s).freeCount = s.freeCount := rfl

/-! ## modifyRoute -/

@[simp] theorem modifyRoute_ingress : (modifyRoute k fr s).ingress = s.ingress := rfl
@[simp] theorem modifyRoute_dispatcher : (modifyRoute k fr s).dispatcher = s.dispatcher := rfl
@[simp] theorem modifyRoute_egress : (modifyRoute k fr s).egress = s.egress := rfl
@[simp] theorem modifyRoute_replyPort : (modifyRoute k fr s).replyPort = s.replyPort := rfl
@[simp] theorem modifyRoute_reference : (modifyRoute k fr s).reference = s.reference := rfl
@[simp] theorem modifyRoute_entries : (modifyRoute k fr s).entries = s.entries := rfl
@[simp] theorem modifyRoute_contexts : (modifyRoute k fr s).contexts = s.contexts := rfl
@[simp] theorem modifyRoute_rings : (modifyRoute k fr s).rings = s.rings := rfl
@[simp] theorem modifyRoute_slots : (modifyRoute k fr s).slots = s.slots := rfl
@[simp] theorem modifyRoute_emissions : (modifyRoute k fr s).emissions = s.emissions := rfl
@[simp] theorem modifyRoute_writeQueue : (modifyRoute k fr s).writeQueue = s.writeQueue := rfl
@[simp] theorem modifyRoute_arbiter : (modifyRoute k fr s).arbiter = s.arbiter := rfl
@[simp] theorem modifyRoute_memory : (modifyRoute k fr s).memory = s.memory := rfl
@[simp] theorem modifyRoute_counterMode : (modifyRoute k fr s).counterMode = s.counterMode := rfl
@[simp] theorem modifyRoute_live : (modifyRoute k fr s).live = s.live := rfl
@[simp] theorem modifyRoute_snapshot : (modifyRoute k fr s).snapshot = s.snapshot := rfl
@[simp] theorem modifyRoute_generator : (modifyRoute k fr s).generator = s.generator := rfl
@[simp] theorem modifyRoute_checker : (modifyRoute k fr s).checker = s.checker := rfl
@[simp] theorem modifyRoute_checkerBank : (modifyRoute k fr s).checkerBank = s.checkerBank := rfl
@[simp] theorem modifyRoute_faults : (modifyRoute k fr s).faults = s.faults := rfl
@[simp] theorem modifyRoute_latches : (modifyRoute k fr s).latches = s.latches := rfl
@[simp] theorem modifyRoute_requestQueue : (modifyRoute k fr s).requestQueue = s.requestQueue := rfl
@[simp] theorem modifyRoute_executor : (modifyRoute k fr s).executor = s.executor := rfl
@[simp] theorem modifyRoute_replyQueue : (modifyRoute k fr s).replyQueue = s.replyQueue := rfl
@[simp] theorem modifyRoute_lastResetCause : (modifyRoute k fr s).lastResetCause = s.lastResetCause := rfl
@[simp] theorem modifyRoute_resetHeld : (modifyRoute k fr s).resetHeld = s.resetHeld := rfl
@[simp] theorem modifyRoute_timebaseRuns : (modifyRoute k fr s).timebaseRuns = s.timebaseRuns := rfl
@[simp] theorem modifyRoute_pending : (modifyRoute k fr s).pending = s.pending := rfl
@[simp] theorem modifyRoute_upsets : (modifyRoute k fr s).upsets = s.upsets := rfl
@[simp] theorem modifyRoute_freeCount : (modifyRoute k fr s).freeCount = s.freeCount := rfl

/-! ## modifyReference -/

@[simp] theorem modifyReference_ingress : (modifyReference ff s).ingress = s.ingress := rfl
@[simp] theorem modifyReference_dispatcher : (modifyReference ff s).dispatcher = s.dispatcher := rfl
@[simp] theorem modifyReference_egress : (modifyReference ff s).egress = s.egress := rfl
@[simp] theorem modifyReference_replyPort : (modifyReference ff s).replyPort = s.replyPort := rfl
@[simp] theorem modifyReference_entries : (modifyReference ff s).entries = s.entries := rfl
@[simp] theorem modifyReference_contexts : (modifyReference ff s).contexts = s.contexts := rfl
@[simp] theorem modifyReference_rings : (modifyReference ff s).rings = s.rings := rfl
@[simp] theorem modifyReference_routes : (modifyReference ff s).routes = s.routes := rfl
@[simp] theorem modifyReference_slots : (modifyReference ff s).slots = s.slots := rfl
@[simp] theorem modifyReference_emissions : (modifyReference ff s).emissions = s.emissions := rfl
@[simp] theorem modifyReference_writeQueue : (modifyReference ff s).writeQueue = s.writeQueue := rfl
@[simp] theorem modifyReference_arbiter : (modifyReference ff s).arbiter = s.arbiter := rfl
@[simp] theorem modifyReference_memory : (modifyReference ff s).memory = s.memory := rfl
@[simp] theorem modifyReference_counterMode : (modifyReference ff s).counterMode = s.counterMode := rfl
@[simp] theorem modifyReference_live : (modifyReference ff s).live = s.live := rfl
@[simp] theorem modifyReference_snapshot : (modifyReference ff s).snapshot = s.snapshot := rfl
@[simp] theorem modifyReference_generator : (modifyReference ff s).generator = s.generator := rfl
@[simp] theorem modifyReference_checker : (modifyReference ff s).checker = s.checker := rfl
@[simp] theorem modifyReference_checkerBank : (modifyReference ff s).checkerBank = s.checkerBank := rfl
@[simp] theorem modifyReference_faults : (modifyReference ff s).faults = s.faults := rfl
@[simp] theorem modifyReference_latches : (modifyReference ff s).latches = s.latches := rfl
@[simp] theorem modifyReference_requestQueue : (modifyReference ff s).requestQueue = s.requestQueue := rfl
@[simp] theorem modifyReference_executor : (modifyReference ff s).executor = s.executor := rfl
@[simp] theorem modifyReference_replyQueue : (modifyReference ff s).replyQueue = s.replyQueue := rfl
@[simp] theorem modifyReference_lastResetCause : (modifyReference ff s).lastResetCause = s.lastResetCause := rfl
@[simp] theorem modifyReference_resetHeld : (modifyReference ff s).resetHeld = s.resetHeld := rfl
@[simp] theorem modifyReference_timebaseRuns : (modifyReference ff s).timebaseRuns = s.timebaseRuns := rfl
@[simp] theorem modifyReference_pending : (modifyReference ff s).pending = s.pending := rfl
@[simp] theorem modifyReference_upsets : (modifyReference ff s).upsets = s.upsets := rfl
@[simp] theorem modifyReference_freeCount : (modifyReference ff s).freeCount = s.freeCount := rfl

/-! ## modifyArbiter -/

@[simp] theorem modifyArbiter_ingress : (modifyArbiter fa s).ingress = s.ingress := rfl
@[simp] theorem modifyArbiter_dispatcher : (modifyArbiter fa s).dispatcher = s.dispatcher := rfl
@[simp] theorem modifyArbiter_egress : (modifyArbiter fa s).egress = s.egress := rfl
@[simp] theorem modifyArbiter_replyPort : (modifyArbiter fa s).replyPort = s.replyPort := rfl
@[simp] theorem modifyArbiter_reference : (modifyArbiter fa s).reference = s.reference := rfl
@[simp] theorem modifyArbiter_entries : (modifyArbiter fa s).entries = s.entries := rfl
@[simp] theorem modifyArbiter_contexts : (modifyArbiter fa s).contexts = s.contexts := rfl
@[simp] theorem modifyArbiter_rings : (modifyArbiter fa s).rings = s.rings := rfl
@[simp] theorem modifyArbiter_routes : (modifyArbiter fa s).routes = s.routes := rfl
@[simp] theorem modifyArbiter_slots : (modifyArbiter fa s).slots = s.slots := rfl
@[simp] theorem modifyArbiter_emissions : (modifyArbiter fa s).emissions = s.emissions := rfl
@[simp] theorem modifyArbiter_writeQueue : (modifyArbiter fa s).writeQueue = s.writeQueue := rfl
@[simp] theorem modifyArbiter_memory : (modifyArbiter fa s).memory = s.memory := rfl
@[simp] theorem modifyArbiter_counterMode : (modifyArbiter fa s).counterMode = s.counterMode := rfl
@[simp] theorem modifyArbiter_live : (modifyArbiter fa s).live = s.live := rfl
@[simp] theorem modifyArbiter_snapshot : (modifyArbiter fa s).snapshot = s.snapshot := rfl
@[simp] theorem modifyArbiter_generator : (modifyArbiter fa s).generator = s.generator := rfl
@[simp] theorem modifyArbiter_checker : (modifyArbiter fa s).checker = s.checker := rfl
@[simp] theorem modifyArbiter_checkerBank : (modifyArbiter fa s).checkerBank = s.checkerBank := rfl
@[simp] theorem modifyArbiter_faults : (modifyArbiter fa s).faults = s.faults := rfl
@[simp] theorem modifyArbiter_latches : (modifyArbiter fa s).latches = s.latches := rfl
@[simp] theorem modifyArbiter_requestQueue : (modifyArbiter fa s).requestQueue = s.requestQueue := rfl
@[simp] theorem modifyArbiter_executor : (modifyArbiter fa s).executor = s.executor := rfl
@[simp] theorem modifyArbiter_replyQueue : (modifyArbiter fa s).replyQueue = s.replyQueue := rfl
@[simp] theorem modifyArbiter_lastResetCause : (modifyArbiter fa s).lastResetCause = s.lastResetCause := rfl
@[simp] theorem modifyArbiter_resetHeld : (modifyArbiter fa s).resetHeld = s.resetHeld := rfl
@[simp] theorem modifyArbiter_timebaseRuns : (modifyArbiter fa s).timebaseRuns = s.timebaseRuns := rfl
@[simp] theorem modifyArbiter_pending : (modifyArbiter fa s).pending = s.pending := rfl
@[simp] theorem modifyArbiter_upsets : (modifyArbiter fa s).upsets = s.upsets := rfl
@[simp] theorem modifyArbiter_freeCount : (modifyArbiter fa s).freeCount = s.freeCount := rfl

/-! ## endAccess -/

@[simp] theorem endAccess_ingress : (endAccess s).ingress = s.ingress := rfl
@[simp] theorem endAccess_dispatcher : (endAccess s).dispatcher = s.dispatcher := rfl
@[simp] theorem endAccess_egress : (endAccess s).egress = s.egress := rfl
@[simp] theorem endAccess_replyPort : (endAccess s).replyPort = s.replyPort := rfl
@[simp] theorem endAccess_reference : (endAccess s).reference = s.reference := rfl
@[simp] theorem endAccess_entries : (endAccess s).entries = s.entries := rfl
@[simp] theorem endAccess_contexts : (endAccess s).contexts = s.contexts := rfl
@[simp] theorem endAccess_rings : (endAccess s).rings = s.rings := rfl
@[simp] theorem endAccess_routes : (endAccess s).routes = s.routes := rfl
@[simp] theorem endAccess_slots : (endAccess s).slots = s.slots := rfl
@[simp] theorem endAccess_emissions : (endAccess s).emissions = s.emissions := rfl
@[simp] theorem endAccess_writeQueue : (endAccess s).writeQueue = s.writeQueue := rfl
@[simp] theorem endAccess_memory : (endAccess s).memory = s.memory := rfl
@[simp] theorem endAccess_counterMode : (endAccess s).counterMode = s.counterMode := rfl
@[simp] theorem endAccess_live : (endAccess s).live = s.live := rfl
@[simp] theorem endAccess_snapshot : (endAccess s).snapshot = s.snapshot := rfl
@[simp] theorem endAccess_generator : (endAccess s).generator = s.generator := rfl
@[simp] theorem endAccess_checker : (endAccess s).checker = s.checker := rfl
@[simp] theorem endAccess_checkerBank : (endAccess s).checkerBank = s.checkerBank := rfl
@[simp] theorem endAccess_faults : (endAccess s).faults = s.faults := rfl
@[simp] theorem endAccess_latches : (endAccess s).latches = s.latches := rfl
@[simp] theorem endAccess_requestQueue : (endAccess s).requestQueue = s.requestQueue := rfl
@[simp] theorem endAccess_executor : (endAccess s).executor = s.executor := rfl
@[simp] theorem endAccess_replyQueue : (endAccess s).replyQueue = s.replyQueue := rfl
@[simp] theorem endAccess_lastResetCause : (endAccess s).lastResetCause = s.lastResetCause := rfl
@[simp] theorem endAccess_resetHeld : (endAccess s).resetHeld = s.resetHeld := rfl
@[simp] theorem endAccess_timebaseRuns : (endAccess s).timebaseRuns = s.timebaseRuns := rfl
@[simp] theorem endAccess_pending : (endAccess s).pending = s.pending := rfl
@[simp] theorem endAccess_upsets : (endAccess s).upsets = s.upsets := rfl
@[simp] theorem endAccess_freeCount : (endAccess s).freeCount = s.freeCount := rfl

/-! ## modifyEgress -/

@[simp] theorem modifyEgress_ingress : (modifyEgress p fe s).ingress = s.ingress := rfl
@[simp] theorem modifyEgress_dispatcher : (modifyEgress p fe s).dispatcher = s.dispatcher := rfl
@[simp] theorem modifyEgress_replyPort : (modifyEgress p fe s).replyPort = s.replyPort := rfl
@[simp] theorem modifyEgress_reference : (modifyEgress p fe s).reference = s.reference := rfl
@[simp] theorem modifyEgress_entries : (modifyEgress p fe s).entries = s.entries := rfl
@[simp] theorem modifyEgress_contexts : (modifyEgress p fe s).contexts = s.contexts := rfl
@[simp] theorem modifyEgress_rings : (modifyEgress p fe s).rings = s.rings := rfl
@[simp] theorem modifyEgress_routes : (modifyEgress p fe s).routes = s.routes := rfl
@[simp] theorem modifyEgress_slots : (modifyEgress p fe s).slots = s.slots := rfl
@[simp] theorem modifyEgress_emissions : (modifyEgress p fe s).emissions = s.emissions := rfl
@[simp] theorem modifyEgress_writeQueue : (modifyEgress p fe s).writeQueue = s.writeQueue := rfl
@[simp] theorem modifyEgress_arbiter : (modifyEgress p fe s).arbiter = s.arbiter := rfl
@[simp] theorem modifyEgress_memory : (modifyEgress p fe s).memory = s.memory := rfl
@[simp] theorem modifyEgress_counterMode : (modifyEgress p fe s).counterMode = s.counterMode := rfl
@[simp] theorem modifyEgress_live : (modifyEgress p fe s).live = s.live := rfl
@[simp] theorem modifyEgress_snapshot : (modifyEgress p fe s).snapshot = s.snapshot := rfl
@[simp] theorem modifyEgress_generator : (modifyEgress p fe s).generator = s.generator := rfl
@[simp] theorem modifyEgress_checker : (modifyEgress p fe s).checker = s.checker := rfl
@[simp] theorem modifyEgress_checkerBank : (modifyEgress p fe s).checkerBank = s.checkerBank := rfl
@[simp] theorem modifyEgress_faults : (modifyEgress p fe s).faults = s.faults := rfl
@[simp] theorem modifyEgress_latches : (modifyEgress p fe s).latches = s.latches := rfl
@[simp] theorem modifyEgress_requestQueue : (modifyEgress p fe s).requestQueue = s.requestQueue := rfl
@[simp] theorem modifyEgress_executor : (modifyEgress p fe s).executor = s.executor := rfl
@[simp] theorem modifyEgress_replyQueue : (modifyEgress p fe s).replyQueue = s.replyQueue := rfl
@[simp] theorem modifyEgress_lastResetCause : (modifyEgress p fe s).lastResetCause = s.lastResetCause := rfl
@[simp] theorem modifyEgress_resetHeld : (modifyEgress p fe s).resetHeld = s.resetHeld := rfl
@[simp] theorem modifyEgress_timebaseRuns : (modifyEgress p fe s).timebaseRuns = s.timebaseRuns := rfl
@[simp] theorem modifyEgress_pending : (modifyEgress p fe s).pending = s.pending := rfl
@[simp] theorem modifyEgress_upsets : (modifyEgress p fe s).upsets = s.upsets := rfl
@[simp] theorem modifyEgress_freeCount : (modifyEgress p fe s).freeCount = s.freeCount := rfl

/-! ## finishBurst -/

@[simp] theorem finishBurst_egress : (finishBurst p s).egress = s.egress := rfl
@[simp] theorem finishBurst_replyPort : (finishBurst p s).replyPort = s.replyPort := rfl
@[simp] theorem finishBurst_reference : (finishBurst p s).reference = s.reference := rfl
@[simp] theorem finishBurst_entries : (finishBurst p s).entries = s.entries := rfl
@[simp] theorem finishBurst_contexts : (finishBurst p s).contexts = s.contexts := rfl
@[simp] theorem finishBurst_rings : (finishBurst p s).rings = s.rings := rfl
@[simp] theorem finishBurst_routes : (finishBurst p s).routes = s.routes := rfl
@[simp] theorem finishBurst_slots : (finishBurst p s).slots = s.slots := rfl
@[simp] theorem finishBurst_emissions : (finishBurst p s).emissions = s.emissions := rfl
@[simp] theorem finishBurst_writeQueue : (finishBurst p s).writeQueue = s.writeQueue := rfl
@[simp] theorem finishBurst_arbiter : (finishBurst p s).arbiter = s.arbiter := rfl
@[simp] theorem finishBurst_memory : (finishBurst p s).memory = s.memory := rfl
@[simp] theorem finishBurst_counterMode : (finishBurst p s).counterMode = s.counterMode := rfl
@[simp] theorem finishBurst_live : (finishBurst p s).live = s.live := rfl
@[simp] theorem finishBurst_snapshot : (finishBurst p s).snapshot = s.snapshot := rfl
@[simp] theorem finishBurst_generator : (finishBurst p s).generator = s.generator := rfl
@[simp] theorem finishBurst_checker : (finishBurst p s).checker = s.checker := rfl
@[simp] theorem finishBurst_checkerBank : (finishBurst p s).checkerBank = s.checkerBank := rfl
@[simp] theorem finishBurst_faults : (finishBurst p s).faults = s.faults := rfl
@[simp] theorem finishBurst_latches : (finishBurst p s).latches = s.latches := rfl
@[simp] theorem finishBurst_requestQueue : (finishBurst p s).requestQueue = s.requestQueue := rfl
@[simp] theorem finishBurst_executor : (finishBurst p s).executor = s.executor := rfl
@[simp] theorem finishBurst_replyQueue : (finishBurst p s).replyQueue = s.replyQueue := rfl
@[simp] theorem finishBurst_lastResetCause : (finishBurst p s).lastResetCause = s.lastResetCause := rfl
@[simp] theorem finishBurst_resetHeld : (finishBurst p s).resetHeld = s.resetHeld := rfl
@[simp] theorem finishBurst_timebaseRuns : (finishBurst p s).timebaseRuns = s.timebaseRuns := rfl
@[simp] theorem finishBurst_pending : (finishBurst p s).pending = s.pending := rfl
@[simp] theorem finishBurst_upsets : (finishBurst p s).upsets = s.upsets := rfl
@[simp] theorem finishBurst_freeCount : (finishBurst p s).freeCount = s.freeCount := rfl

/-! ## takeRequest -/

@[simp] theorem takeRequest_ingress : (takeRequest rq s).ingress = s.ingress := rfl
@[simp] theorem takeRequest_dispatcher : (takeRequest rq s).dispatcher = s.dispatcher := rfl
@[simp] theorem takeRequest_egress : (takeRequest rq s).egress = s.egress := rfl
@[simp] theorem takeRequest_replyPort : (takeRequest rq s).replyPort = s.replyPort := rfl
@[simp] theorem takeRequest_reference : (takeRequest rq s).reference = s.reference := rfl
@[simp] theorem takeRequest_entries : (takeRequest rq s).entries = s.entries := rfl
@[simp] theorem takeRequest_contexts : (takeRequest rq s).contexts = s.contexts := rfl
@[simp] theorem takeRequest_rings : (takeRequest rq s).rings = s.rings := rfl
@[simp] theorem takeRequest_routes : (takeRequest rq s).routes = s.routes := rfl
@[simp] theorem takeRequest_slots : (takeRequest rq s).slots = s.slots := rfl
@[simp] theorem takeRequest_emissions : (takeRequest rq s).emissions = s.emissions := rfl
@[simp] theorem takeRequest_writeQueue : (takeRequest rq s).writeQueue = s.writeQueue := rfl
@[simp] theorem takeRequest_arbiter : (takeRequest rq s).arbiter = s.arbiter := rfl
@[simp] theorem takeRequest_memory : (takeRequest rq s).memory = s.memory := rfl
@[simp] theorem takeRequest_counterMode : (takeRequest rq s).counterMode = s.counterMode := rfl
@[simp] theorem takeRequest_live : (takeRequest rq s).live = s.live := rfl
@[simp] theorem takeRequest_snapshot : (takeRequest rq s).snapshot = s.snapshot := rfl
@[simp] theorem takeRequest_generator : (takeRequest rq s).generator = s.generator := rfl
@[simp] theorem takeRequest_checker : (takeRequest rq s).checker = s.checker := rfl
@[simp] theorem takeRequest_checkerBank : (takeRequest rq s).checkerBank = s.checkerBank := rfl
@[simp] theorem takeRequest_faults : (takeRequest rq s).faults = s.faults := rfl
@[simp] theorem takeRequest_latches : (takeRequest rq s).latches = s.latches := rfl
@[simp] theorem takeRequest_replyQueue : (takeRequest rq s).replyQueue = s.replyQueue := rfl
@[simp] theorem takeRequest_lastResetCause : (takeRequest rq s).lastResetCause = s.lastResetCause := rfl
@[simp] theorem takeRequest_resetHeld : (takeRequest rq s).resetHeld = s.resetHeld := rfl
@[simp] theorem takeRequest_timebaseRuns : (takeRequest rq s).timebaseRuns = s.timebaseRuns := rfl
@[simp] theorem takeRequest_pending : (takeRequest rq s).pending = s.pending := rfl
@[simp] theorem takeRequest_upsets : (takeRequest rq s).upsets = s.upsets := rfl
@[simp] theorem takeRequest_freeCount : (takeRequest rq s).freeCount = s.freeCount := rfl

end Sys2Proof.Machine
end

