-- ==== Sys2Proof/Laws/Tables.lean ====
section
/-! SUPPORT. Reading a changed table, and induction over the indexes of a table. -/

namespace Sys2Proof.Machine

@[simp] theorem modifyAt_same {α : Type} {n : Nat} (v : Vector α n) (i : Fin n) (f : α → α) :
    (modifyAt v i f)[i] = f v[i] := by
  simp [modifyAt]

theorem modifyAt_other {α : Type} {n : Nat} (v : Vector α n) (i j : Fin n) (f : α → α) (h : j ≠ i) :
    (modifyAt v i f)[j] = v[j] := by
  have hv : i.val ≠ j.val := fun e => h (Fin.ext e.symm)
  simp [modifyAt, Vector.getElem_set_ne, hv]

theorem modifyAt_get {α : Type} {n : Nat} (v : Vector α n) (i j : Fin n) (f : α → α) :
    (modifyAt v i f)[j] = if j = i then f v[i] else v[j] := by
  by_cases h : j = i
  · subst h
    rw [if_pos rfl]
    exact modifyAt_same v j f
  · rw [if_neg h]
    exact modifyAt_other v i j f h

@[simp] theorem mapTable_get {α β : Type} {n : Nat} (f : α → β) (v : Vector α n) (i : Fin n) :
    (mapTable f v)[i] = f v[i] := by
  simp [mapTable, Vector.getElem_mk]

/-- A table with an entry set to what it is. -/
theorem table_set_same {α : Type} {n : Nat} (v : Vector α n) (i : Fin n) : v.set i v[i] = v := by simp

theorem mem_indexes {n : Nat} (i : Fin n) : i ∈ indexes n := List.mem_finRange i

theorem mem_roundFrom {n : Nat} (start i : Fin n) : i ∈ roundFrom start := by
  have h : i ∈ (indexes n).take start.val ++ (indexes n).drop start.val := by
    rw [List.take_append_drop]; exact mem_indexes i
  simp only [roundFrom, List.mem_append] at *
  exact h.symm

/-- What holds before, and is kept by the work done for each index, holds after. -/
theorem forEach_keeps {ι σ : Type} (inv : σ → Prop) (f : ι → σ → σ) (hf : ∀ i s, inv s → inv (f i s)) (is : List ι) (s : σ)
    (hs : inv s) : inv (forEach is f s) := by
  induction is generalizing s with
  | nil => exact hs
  | cons i rest ih => exact ih (f i s) (hf i s hs)

@[simp] theorem forEach_nil {ι σ : Type} (f : ι → σ → σ) (s : σ) : forEach [] f s = s := rfl

@[simp] theorem forEach_cons {ι σ : Type} (i : ι) (rest : List ι) (f : ι → σ → σ) (s : σ) :
    forEach (i :: rest) f s = forEach rest f (f i s) := rfl

end Sys2Proof.Machine
end

