-- ==== Sys2Proof/Laws/Frames.lean ====
section
/-! SUPPORT. What each shared operation leaves unchanged, said once: the fields of State it can touch. -/

namespace Sys2Proof.Machine

/-! ## Keeps -/

theorem Keeps.refl (touched : List Field) (s : State) : Keeps touched s s := by
  intro f _
  cases f <;> rfl

theorem Field.same_trans {f : Field} {s t u : State} (h : f.same s t) (g : f.same t u) : f.same s u := by
  cases f <;> exact Eq.trans g h

theorem Keeps.trans {touched : List Field} {s t u : State} (h : Keeps touched s t) (g : Keeps touched t u) :
    Keeps touched s u :=
  fun f hf => Field.same_trans (h f hf) (g f hf)

theorem Keeps.mono {few many : List Field} {s t : State} (h : Keeps few s t)
    (sub : few.all (fun f => many.contains f) = true) : Keeps many s t := by
  intro f hf
  apply h f
  intro hin
  have := List.all_eq_true.mp sub f hin
  exact hf (List.contains_iff_mem.mp this)

/-- Two changes, one after the other. -/
theorem Keeps.seq {first second both : List Field} {s t u : State} (h : Keeps first s t) (g : Keeps second t u)
    (sub : (first ++ second).all (fun f => both.contains f) = true) : Keeps both s u := by
  rw [List.all_append, Bool.and_eq_true] at sub
  exact (h.mono sub.1).trans (g.mono sub.2)

/-- Work done for each index of a list, each time touching no more than the fields named. -/
theorem Keeps.forEach {ι : Type} {touched : List Field} (f : ι → State → State) (hf : ∀ i s, Keeps touched s (f i s))
    (is : List ι) (s : State) : Keeps touched s (forEach is f s) := by
  induction is generalizing s with
  | nil => exact Keeps.refl touched s
  | cons i rest ih => exact (hf i s).trans (ih (f i s))

theorem Keeps.whileRunning {touched : List Field} {s : State} {f : State → State} (h : Keeps touched s (f s)) :
    Keeps touched s (whileRunning s f) := by
  unfold Machine.whileRunning
  split
  · exact Keeps.refl touched s
  · exact h

/-! ## The updates -/

variable (s : State) (n : Fin 32) (k : Fin 16) (p : Fin 4) (b : BufferName) (a a2 : Nat) (e : EventKind)
variable (sc : StreamCounter) (lc : SlotCounter) (ic : IngressCounter) (ec : EgressCounter)
variable (rc : ReferenceCounter) (mc : MemoryCounter) (fb : Buffer → Buffer) (fc : StreamContext → StreamContext)
variable (fs : SlotContext → SlotContext) (fu : EmissionUnit → EmissionUnit) (fr : Route → Route)
variable (ff : Reference → Reference) (fa : Arbiter → Arbiter) (fe : EgressPort → EgressPort) (rq : List (List Word))

theorem countStream_keeps : Keeps [.live] s (countStream n sc s) := by
  intro f hf; cases f <;> first | rfl | simp at hf

theorem countSlot_keeps : Keeps [.live] s (countSlot k lc a s) := by
  intro f hf; cases f <;> first | rfl | simp at hf

theorem countIngress_keeps : Keeps [.live] s (countIngress p ic s) := by
  intro f hf; cases f <;> first | rfl | simp at hf

theorem countEgress_keeps : Keeps [.live] s (countEgress p ec s) := by
  intro f hf; cases f <;> first | rfl | simp at hf

theorem countReference_keeps : Keeps [.live] s (countReference rc s) := by
  intro f hf; cases f <;> first | rfl | simp at hf

theorem countMemory_keeps : Keeps [.live] s (countMemory mc s) := by
  intro f hf; cases f <;> first | rfl | simp at hf

theorem raise_keeps : Keeps [.latches] s (raise e a a2 s) := by
  intro f hf; cases f <;> first | rfl | simp at hf

theorem modifyBuffer_keeps : Keeps [.rings] s (modifyBuffer b fb s) := by
  intro f hf; cases f <;> first | rfl | simp at hf

theorem modifyRing_keeps : Keeps [.rings] s (modifyRing n fb s) := by
  intro f hf; cases f <;> first | rfl | simp at hf

theorem modifyContext_keeps : Keeps [.contexts] s (modifyContext n fc s) := by
  intro f hf; cases f <;> first | rfl | simp at hf

theorem modifySlot_keeps : Keeps [.slots] s (modifySlot k fs s) := by
  intro f hf; cases f <;> first | rfl | simp at hf

theorem modifyEmission_keeps : Keeps [.emissions] s (modifyEmission k fu s) := by
  intro f hf; cases f <;> first | rfl | simp at hf

theorem modifyRoute_keeps : Keeps [.routes] s (modifyRoute k fr s) := by
  intro f hf; cases f <;> first | rfl | simp at hf

theorem modifyReference_keeps : Keeps [.reference] s (modifyReference ff s) := by
  intro f hf; cases f <;> first | rfl | simp at hf

theorem modifyArbiter_keeps : Keeps [.arbiter] s (modifyArbiter fa s) := by
  intro f hf; cases f <;> first | rfl | simp at hf

theorem endAccess_keeps : Keeps [.arbiter] s (endAccess s) := by
  intro f hf; cases f <;> first | rfl | simp at hf

theorem modifyEgress_keeps : Keeps [.egress] s (modifyEgress p fe s) := by
  intro f hf; cases f <;> first | rfl | simp at hf

theorem finishBurst_keeps : Keeps [.ingress, .dispatcher] s (finishBurst p s) := by
  intro f hf; cases f <;> first | rfl | simp at hf

theorem takeRequest_keeps : Keeps [.requestQueue, .executor] s (takeRequest rq s) := by
  intro f hf; cases f <;> first | rfl | simp at hf

/-! ## Reading what an update changed -/

/-- R173: an occurrence changes its own latch alone. -/
theorem raise_latch (l : Fin 16) :
    (raise e a a2 s).latches[l] = if l = latchNumber e then occur a a2 s.latches[latchNumber e] else s.latches[l] :=
  modifyAt_get _ _ _ _

/-- A change of one buffer leaves every other buffer. -/
theorem bufferOf_modifyBuffer_other (c : BufferName) (h : b ≠ c) : bufferOf (modifyBuffer b fb s) c = bufferOf s c := by
  unfold bufferOf modifyBuffer
  simp only [modifyAt_get]
  split
  · rename_i hs
    have hr : c.ring ≠ b.ring := by
      intro hr
      apply h
      cases b
      cases c
      simp_all
    rw [modifyAt_get, if_neg hr]
    simp only [hs]
  · rfl

end Sys2Proof.Machine
end

