-- ==== Sys2Proof/Laws/PerInstr.lean ====
section
/-! SUPPORT. The family Canonical: the form in which a meaning uses a command's operands is, for a well-formed command, the command
as it was given: no cell, no bit in error and no work of a tick is dropped or moved. -/

namespace Sys2Proof.Machine

/-- The command with its operands in the form in which its meaning uses them. -/
def canonicalOperands (i : Instr) : Instr :=
  match i with
  | .powerOnReset memsz cells badBits => .powerOnReset memsz (canonicalCells cells) (canonicalBits badBits)
  | .refEdge order => .refEdge order.eraseDups
  | .freePeriodExpiry order => .freePeriodExpiry order.eraseDups
  | .windowClose order => .windowClose order.eraseDups
  | .searchingFlywheel order => .searchingFlywheel order.eraseDups
  | i => i

theorem write_below {bound low a : Nat} {v : Byte} {m : Memory} (h : cellsGood bound low m = true) (ha : a < low)
    (hv : v ≠ Config.unlistedByte) : Memory.write m a v = (a, v) :: m := by
  cases m with
  | nil => simp [Memory.write, hv]
  | cons c rest =>
    obtain ⟨b, w⟩ := c
    have hb : low ≤ b := by simp [cellsGood] at h; exact h.1.1.1
    have hab : a < b := by omega
    simp [Memory.write, hab, hv]

theorem canonicalCells_good {bound low : Nat} {cells : List Host.Cell} (h : cellsGood bound low cells = true) :
    canonicalCells cells = cells := by
  unfold canonicalCells
  rw [List.foldl_reverse]
  induction cells generalizing low with
  | nil => rfl
  | cons c rest ih =>
    obtain ⟨a, v⟩ := c
    have hr : cellsGood bound (a + 1) rest = true := by simp [cellsGood] at h; exact h.2
    have hv : v ≠ Config.unlistedByte := by simp [cellsGood] at h; exact h.1.2
    rw [List.foldr_cons, ih hr]
    exact write_below hr (Nat.lt_succ_self a) hv

theorem toggle_above {bad : List Nat} {b : Nat} (h : ∀ x ∈ bad, x < b) : toggleBadBit bad b = bad ++ [b] := by
  induction bad with
  | nil => rfl
  | cons c rest ih =>
    have hc := h c (by simp)
    have h1 : ¬ b < c := by omega
    have h2 : ¬ b = c := by omega
    simp [toggleBadBit, h1, h2, ih (fun x hx => h x (List.mem_cons_of_mem _ hx))]

theorem canonicalBits_from {bound low : Nat} {bits acc : List Nat} (h : bitsGood bound low bits = true)
    (hacc : ∀ x ∈ acc, x < low) :
    bits.foldl (fun acc b => if acc.contains b then acc else toggleBadBit acc b) acc = acc ++ bits := by
  induction bits generalizing low acc with
  | nil => simp
  | cons b rest ih =>
    simp only [bitsGood, Bool.and_eq_true, decide_eq_true_eq] at h
    have hb : ∀ x ∈ acc, x < b := fun x hx => lt_of_lt_of_le (hacc x hx) h.1.1
    have hn : acc.contains b = false := by
      rw [← Bool.not_eq_true, List.contains_iff_mem]
      intro hin
      exact lt_irrefl b (hb b hin)
    rw [List.foldl_cons, hn]
    simp only [Bool.false_eq_true, if_false]
    rw [toggle_above hb, ih h.2]
    · simp
    · intro x hx
      rcases List.mem_append.mp hx with hx | hx
      · have := hb x hx; omega
      · simp at hx; omega

theorem canonicalBits_good {bound : Nat} {bits : List Nat} (h : bitsGood bound 0 bits = true) : canonicalBits bits = bits :=
  canonicalBits_from h (by simp)

theorem eraseDups_nodup {order : List TickWork} (h : order.Nodup) : order.eraseDups = order := by
  induction order with
  | nil => rfl
  | cons w rest ih =>
    rw [List.nodup_cons] at h
    have hf : rest.filter (fun b => !b == w) = rest := by
      rw [List.filter_eq_self]
      intro x hx
      have : x ≠ w := fun e => h.1 (e ▸ hx)
      simp [this]
    rw [List.eraseDups_cons, hf, ih h.2]

theorem eraseDups_good {order : List TickWork} (h : orderGood order = true) : order.eraseDups = order :=
  eraseDups_nodup (by simpa [orderGood] using h)

end Sys2Proof.Machine

namespace Sys2Proof.Laws.Canonical

open Sys2Proof.Machine

/-- A well-formed command is used as it was given. -/
def Statement (i : Instr) : Prop := i.wellFormed = true → canonicalOperands i = i

theorem powerOnReset (memsz : BitVec 2) (cells : List Host.Cell) (badBits : List Nat) :
    Statement (.powerOnReset memsz cells badBits) := by
  intro h
  have h2 : cellsGood (256 * Config.blocksOfStrap memsz) 0 cells = true ∧
      bitsGood (2304 * Config.blocksOfStrap memsz) 0 badBits = true := by
    simpa [Instr.wellFormed, imageGood] using h
  simp only [canonicalOperands, canonicalCells_good h2.1, canonicalBits_good h2.2]

theorem refEdge (order : List TickWork) : Statement (.refEdge order) := by
  intro h
  simp only [canonicalOperands, eraseDups_good h]

theorem freePeriodExpiry (order : List TickWork) : Statement (.freePeriodExpiry order) := by
  intro h
  simp only [canonicalOperands, eraseDups_good h]

theorem windowClose (order : List TickWork) : Statement (.windowClose order) := by
  intro h
  simp only [canonicalOperands, eraseDups_good h]

theorem searchingFlywheel (order : List TickWork) : Statement (.searchingFlywheel order) := by
  intro h
  simp only [canonicalOperands, eraseDups_good h]

theorem pinReset (memsz : BitVec 2) : Statement (.pinReset memsz) := fun _ => rfl
theorem ingressBurstJudged (port : Fin 4) (reception : Reception) : Statement (.ingressBurstJudged port reception) :=
  fun _ => rfl
theorem activityJudgement (stream : Fin 32) : Statement (.activityJudgement stream) := fun _ => rfl
theorem intervalOverflow (stream : Fin 32) : Statement (.intervalOverflow stream) := fun _ => rfl
theorem holdExpired (slot : Fin 16) : Statement (.holdExpired slot) := fun _ => rfl
theorem egressGrant (port : Fin 4) : Statement (.egressGrant port) := fun _ => rfl
theorem egressBurstCompletion (port : Fin 4) : Statement (.egressBurstCompletion port) := fun _ => rfl
theorem dispatchBurst : Statement .dispatchBurst := fun _ => rfl
theorem waitingBurstAccepted : Statement .waitingBurstAccepted := fun _ => rfl
theorem memoryGrant : Statement .memoryGrant := fun _ => rfl
theorem writeCompletion : Statement .writeCompletion := fun _ => rfl
theorem slotReadCompletion : Statement .slotReadCompletion := fun _ => rfl
theorem managementAccessCompletion : Statement .managementAccessCompletion := fun _ => rfl
theorem refreshCompletion : Statement .refreshCompletion := fun _ => rfl
theorem refreshTimerExpiry : Statement .refreshTimerExpiry := fun _ => rfl
theorem generatorFrameStart : Statement .generatorFrameStart := fun _ => rfl
theorem generatorBurstTaken : Statement .generatorBurstTaken := fun _ => rfl
theorem replySpaceFreed : Statement .replySpaceFreed := fun _ => rfl
theorem readIdentity : Statement .readIdentity := fun _ => rfl
theorem resetPart : Statement .resetPart := fun _ => rfl
theorem readPorts : Statement .readPorts := fun _ => rfl
theorem writePorts : Statement .writePorts := fun _ => rfl
theorem readStreamEntry : Statement .readStreamEntry := fun _ => rfl
theorem writeStreamEntry : Statement .writeStreamEntry := fun _ => rfl
theorem enableStream : Statement .enableStream := fun _ => rfl
theorem disableStream : Statement .disableStream := fun _ => rfl
theorem readStreamStatus : Statement .readStreamStatus := fun _ => rfl
theorem readRingStatus : Statement .readRingStatus := fun _ => rfl
theorem readRouteEntry : Statement .readRouteEntry := fun _ => rfl
theorem writeRouteEntry : Statement .writeRouteEntry := fun _ => rfl
theorem readSlotStatus : Statement .readSlotStatus := fun _ => rfl
theorem readReference : Statement .readReference := fun _ => rfl
theorem setReference : Statement .setReference := fun _ => rfl
theorem readArbitration : Statement .readArbitration := fun _ => rfl
theorem setArbitration : Statement .setArbitration := fun _ => rfl
theorem memoryRead : Statement .memoryRead := fun _ => rfl
theorem memoryWrite : Statement .memoryWrite := fun _ => rfl
theorem snapshotCounters : Statement .snapshotCounters := fun _ => rfl
theorem readCounters : Statement .readCounters := fun _ => rfl
theorem setCounterMode : Statement .setCounterMode := fun _ => rfl
theorem readEvent : Statement .readEvent := fun _ => rfl
theorem readEventState : Statement .readEventState := fun _ => rfl
theorem clearEvents : Statement .clearEvents := fun _ => rfl
theorem writeEventMask : Statement .writeEventMask := fun _ => rfl
theorem readFaultRecord : Statement .readFaultRecord := fun _ => rfl
theorem clearFaults : Statement .clearFaults := fun _ => rfl
theorem generatorStart : Statement .generatorStart := fun _ => rfl
theorem generatorStop : Statement .generatorStop := fun _ => rfl
theorem checkerSetup : Statement .checkerSetup := fun _ => rfl
theorem checkerSnapshot : Statement .checkerSnapshot := fun _ => rfl
theorem readTestStatus : Statement .readTestStatus := fun _ => rfl
theorem pinResetBegin : Statement .pinResetBegin := fun _ => rfl
theorem badRequest : Statement .badRequest := fun _ => rfl

end Sys2Proof.Laws.Canonical
end

