-- ==== Sys2Proof/Laws/StreamFrames.lean ====
section
/-! SUPPORT. What the operations of faults, streams, rings, the checker and the dispatcher can touch. -/

namespace Sys2Proof.Machine

/-! ## Faults and the entries to LOST and CLOSING -/

theorem damage_keeps (n : Fin 32) (c : Nat) (s : State) : Keeps [.live, .latches] s (damage n c s) :=
  (countStream_keeps s n .damaged).seq (raise_keeps _ n.val c .frameDamaged) (by decide)

theorem abandon_keeps (b : BufferName) (c : Nat) (s : State) : Keeps [.rings, .live, .latches] s (abandon b c s) :=
  (modifyBuffer_keeps s b emptied).seq (damage_keeps b.stream c _) (by decide)

theorem settleClosing_keeps (n : Fin 32) (s : State) : Keeps [.contexts] s (settleClosing n s) := by
  unfold settleClosing
  split
  · exact modifyContext_keeps s n _
  · exact Keeps.refl _ s

theorem takeHold_keeps (b : BufferName) (s : State) : Keeps [.rings] s (takeHold b s) := modifyBuffer_keeps s b _

/-- R52: the settling of a CLOSING stream changes its state alone. -/
theorem settleClosing_eq (n : Fin 32) (s : State) :
    settleClosing n s =
      { s with
        contexts := s.contexts.set n
          { s.contexts[n] with
            state :=
              if s.contexts[n].state = .closing ∧ s.contexts[n].writesOutstanding = 0 ∧
                  (∀ i : Fin 8, s.rings[n][i].holdCount = 0) then .off
              else s.contexts[n].state } } := by
  have hall : (s.rings[n].toList.all (fun b => b.holdCount == 0) = true) ↔ ∀ i : Fin 8, s.rings[n][i].holdCount = 0 := by
    simp only [List.all_eq_true, beq_iff_eq, Vector.mem_toList_iff, Vector.mem_iff_getElem]
    constructor
    · intro h i; exact h _ ⟨i.val, i.isLt, rfl⟩
    · rintro h b ⟨i, hi, rfl⟩; exact h ⟨i, hi⟩
  unfold settleClosing
  by_cases h : s.contexts[n].state = .closing ∧ s.contexts[n].writesOutstanding = 0 ∧
      (∀ i : Fin 8, s.rings[n][i].holdCount = 0)
  · rw [if_pos ⟨h.1, h.2.1, hall.mpr h.2.2⟩, if_pos h]; rfl
  · rw [if_neg (fun e => h ⟨e.1, e.2.1, hall.mp e.2.2⟩), if_neg h]
    exact congrArg (fun c => { s with contexts := c }) (table_set_same s.contexts n).symm

/-- R58: a let-go outside CLOSING, or of a buffer that another slot still holds, lowers the hold count alone. -/
theorem letGo_open (b : BufferName) (s : State)
    (h : s.contexts[b.stream].state ≠ .closing ∨ 1 < (bufferOf s b).holdCount) :
    letGo b s = modifyBuffer b (fun r => { r with holdCount := r.holdCount - 1 }) s := by
  unfold letGo
  dsimp only
  split
  · rename_i hc
    have hc' : s.contexts[b.stream].state = .closing := hc
    have hh : 1 < (bufferOf s b).holdCount := by rcases h with h | h; exact absurd hc' h; exact h
    have e : (bufferOf (modifyBuffer b (fun r => { r with holdCount := r.holdCount - 1 }) s) b).holdCount =
        (bufferOf s b).holdCount - 1 := by
      simp [bufferOf, modifyBuffer, modifyAt]
    rw [e, if_neg (by omega), settleClosing_eq, if_neg, table_set_same]
    rintro ⟨_, _, h3⟩
    have := h3 b.ring
    change (bufferOf (modifyBuffer b (fun r => { r with holdCount := r.holdCount - 1 }) s) b).holdCount = 0 at this
    omega
  · rfl

/-- R78: in CLOSING the last let-go of a buffer makes it EMPTY, and the stream may settle. -/
theorem letGo_closing (b : BufferName) (s : State)
    (h : s.contexts[b.stream].state = .closing) (h2 : (bufferOf s b).holdCount ≤ 1) :
    letGo b s = settleClosing b.stream (modifyBuffer b (fun r => { emptied r with holdCount := 0 }) s) := by
  unfold letGo
  have e : (bufferOf (modifyBuffer b (fun r => { r with holdCount := r.holdCount - 1 }) s) b).holdCount =
        (bufferOf s b).holdCount - 1 := by
      simp [bufferOf, modifyBuffer, modifyAt]
  have hc : (modifyBuffer b (fun r => { r with holdCount := r.holdCount - 1 }) s).contexts[b.stream].state = .closing := h
  dsimp only
  rw [if_pos hc, e, if_pos (by omega)]
  congr 1
  simp only [modifyBuffer, modifyAt]
  have h0 : s.rings[b.stream.val][b.ring.val].holdCount - 1 = 0 := by change (bufferOf s b).holdCount - 1 = 0; omega
  simp [emptied, h0]

theorem letGo_keeps (b : BufferName) (s : State) : Keeps [.rings, .contexts] s (letGo b s) := by
  unfold letGo
  dsimp only
  split
  · split
    · exact ((modifyBuffer_keeps s b _).seq (modifyBuffer_keeps _ b _) (by decide)).seq (settleClosing_keeps _ _) (by decide)
        (first := [.rings])
    · exact (modifyBuffer_keeps s b _).seq (settleClosing_keeps _ _) (by decide)
  · exact (modifyBuffer_keeps s b _).mono (by decide)

/-- R58: a let-go lowers the hold count of its buffer by one. -/
theorem letGo_holdCount (b : BufferName) (s : State) : (bufferOf (letGo b s) b).holdCount = (bufferOf s b).holdCount - 1 := by
  by_cases h : s.contexts[b.stream].state ≠ .closing ∨ 1 < (bufferOf s b).holdCount
  · rw [letGo_open b s h]
    simp [bufferOf, modifyBuffer, modifyAt]
  · push Not at h
    have hh : s.rings[b.stream.val][b.ring.val].holdCount ≤ 1 := h.2
    rw [letGo_closing b s h.1 h.2, settleClosing_eq]
    simp [bufferOf, modifyBuffer, modifyAt]
    omega

/-- R58, R78: a let-go leaves every other buffer. -/
theorem letGo_other (b c : BufferName) (s : State) (h : b ≠ c) : bufferOf (letGo b s) c = bufferOf s c := by
  by_cases hc : s.contexts[b.stream].state ≠ .closing ∨ 1 < (bufferOf s b).holdCount
  · rw [letGo_open b s hc]
    exact bufferOf_modifyBuffer_other _ _ _ _ h
  · push Not at hc
    rw [letGo_closing b s hc.1 hc.2, settleClosing_eq]
    exact bufferOf_modifyBuffer_other _ _ _ _ h

theorem misroute_keeps (p : Fin 4) (s : State) : Keeps [.live, .latches] s (misroute p s) :=
  (countIngress_keeps s p .misroutes).seq (raise_keeps _ p.val 0 .misroute) (by decide)

theorem discardWaiting_keeps (s : State) : Keeps [.ingress, .dispatcher] s (discardWaiting s) := by
  unfold discardWaiting
  split
  · exact Keeps.refl _ s
  · exact finishBurst_keeps s _

theorem misrouteWaiting_keeps (n : Fin 32) (s : State) :
    Keeps [.ingress, .dispatcher, .live, .latches] s (misrouteWaiting n s) := by
  unfold misrouteWaiting
  split
  · exact Keeps.refl _ s
  · split
    · exact Keeps.refl _ s
    · split
      · exact (finishBurst_keeps s _).seq (misroute_keeps _ _) (by decide)
      · exact Keeps.refl _ s

theorem raiseGeneratorTest_keeps (c : Nat) (s : State) : Keeps [.latches] s (raiseGeneratorTest c s) := by
  unfold raiseGeneratorTest
  split
  · exact Keeps.refl _ s
  · exact raise_keeps s _ _ _

theorem abortGenerator_keeps (s : State) : Keeps [.generator, .latches] s (abortGenerator s) := by
  unfold abortGenerator
  split
  · refine Keeps.seq (first := [.generator]) ?_ (raiseGeneratorTest_keeps 1 _) (by decide)
    intro f hf; cases f <;> first | rfl | simp at hf
  · exact Keeps.refl _ s

theorem enterSafe_keeps (s : State) :
    Keeps [.faults, .ingress, .dispatcher, .generator, .latches] s (enterSafe s) := by
  refine Keeps.seq (first := [.faults, .ingress, .dispatcher]) ?_ (abortGenerator_keeps _) (by decide)
  refine Keeps.seq (first := [.faults]) ?_ (discardWaiting_keeps _) (by decide)
  intro f hf; cases f <;> first | rfl | simp at hf

theorem minorFault_keeps (kind : FaultKind) (source : FaultSource) (i : Nat) (block : Option Nat) (s : State) :
    Keeps [.faults, .latches] s (minorFault kind source i block s) := by
  unfold minorFault
  split
  · exact Keeps.refl _ s
  · refine Keeps.seq (first := [.faults]) ?_ (raise_keeps _ _ _ _) (by decide)
    intro f hf; cases f <;> first | rfl | simp at hf

theorem majorFault_keeps (kind : FaultKind) (source : FaultSource) (i : Nat) (block : Option Nat) (s : State) :
    Keeps [.faults, .ingress, .dispatcher, .generator, .latches] s (majorFault kind source i block s) := by
  unfold majorFault
  split
  · exact Keeps.refl _ s
  · split
    · exact (enterSafe_keeps s).seq (raise_keeps _ _ _ _) (by decide)
    · refine Keeps.seq (first := [.faults]) ?_ (raise_keeps _ _ _ _) (by decide)
      intro f hf; cases f <;> first | rfl | simp at hf

theorem judgeAccess_keeps (v : EccVerdict) (source : FaultSource) (i block : Nat) (s : State) :
    Keeps [.faults, .ingress, .dispatcher, .generator, .latches, .live] s (judgeAccess v source i block s) := by
  unfold judgeAccess
  split
  · exact Keeps.refl _ s
  · exact (countMemory_keeps s _).seq (minorFault_keeps _ _ _ _ _) (by decide)
  · exact (countMemory_keeps s _).seq (majorFault_keeps _ _ _ _ _) (by decide)

theorem goLost_keeps (n : Fin 32) (c : Nat) (s : State) : Keeps [.contexts, .latches, .rings] s (goLost n c s) := by
  refine Keeps.seq (first := [.contexts, .latches]) ?_ (modifyRing_keeps _ n purged) (by decide)
  exact (modifyContext_keeps s n _).seq (raise_keeps _ _ _ _) (by decide)

theorem releaseBuffer_keeps (n : Fin 32) (i : Fin 8) (s : State) :
    Keeps [.rings, .live, .latches] s (releaseBuffer n i s) := by
  unfold releaseBuffer
  split
  · exact abandon_keeps _ _ s
  · exact abandon_keeps _ _ s
  · exact (modifyBuffer_keeps s _ _).mono (by decide)
  · exact (modifyBuffer_keeps s _ _).mono (by decide)
  · exact Keeps.refl _ s

theorem abortGeneratorOf_keeps (n : Fin 32) (s : State) : Keeps [.generator, .latches] s (abortGeneratorOf n s) := by
  unfold abortGeneratorOf
  split
  · exact abortGenerator_keeps s
  · exact Keeps.refl _ s

theorem enterClosing_keeps (n : Fin 32) (s : State) :
    Keeps [.contexts, .rings, .live, .latches, .generator, .ingress, .dispatcher] s (enterClosing n s) := by
  refine Keeps.seq (first := [.contexts, .rings, .live, .latches, .generator, .ingress, .dispatcher]) ?_
    (settleClosing_keeps n _) (by decide)
  refine Keeps.seq (first := [.contexts, .rings, .live, .latches, .generator]) ?_ (misrouteWaiting_keeps n _) (by decide)
  refine Keeps.seq (first := [.contexts, .rings, .live, .latches]) ?_ (abortGeneratorOf_keeps n _) (by decide)
  exact (modifyContext_keeps s n _).seq (Keeps.forEach _ (fun i t => releaseBuffer_keeps n i t) _ _) (by decide)

theorem entryParityFailure_keeps (n : Fin 32) (s : State) :
    Keeps [.faults, .contexts, .rings, .live, .latches, .generator, .ingress, .dispatcher] s (entryParityFailure n s) :=
  (majorFault_keeps _ _ _ _ s).seq (enterClosing_keeps n _) (by decide)

/-! ## The checker -/

theorem raiseCheckerTest_keeps (c : Option Nat) (s : State) : Keeps [.latches] s (raiseCheckerTest c s) := by
  unfold raiseCheckerTest
  split
  · exact Keeps.refl _ s
  · exact raise_keeps s _ _ _

theorem passWord_keeps (first : Bool) (w : Word) (s : State) : Keeps [.checker, .latches] s (passWord first w s) := by
  refine Keeps.seq (first := [.checker]) ?_ (raiseCheckerTest_keeps _ _) (by decide)
  intro f hf; cases f <;> first | rfl | simp at hf

theorem endCheckedFrame_keeps (s : State) : Keeps [.checker] s (endCheckedFrame s) := by
  unfold endCheckedFrame
  split
  · intro f hf; cases f <;> first | rfl | simp at hf
  · exact Keeps.refl _ s

theorem passBurst_keeps (kind : BurstKind) (ws : List Word) (s : State) :
    Keeps [.checker, .latches] s (passBurst kind ws s) := by
  unfold passBurst
  split
  · exact Keeps.refl _ s
  · rename_i w rest
    have h : Keeps [.checker, .latches] s (forEach rest (passWord false) (passWord (beginsFrame kind) w s)) :=
      (passWord_keeps _ w s).trans (Keeps.forEach _ (fun i t => passWord_keeps false i t) _ _)
    dsimp only
    split
    · exact h.seq (endCheckedFrame_keeps _) (by decide)
    · exact h

theorem tapStream_keeps (n : Fin 32) (kind : BurstKind) (ws : List Word) (s : State) :
    Keeps [.checker, .latches] s (tapStream n kind ws s) := by
  unfold tapStream
  split
  · exact passBurst_keeps kind ws s
  · exact Keeps.refl _ s

theorem tapSlot_keeps (k : Fin 16) (kind : BurstKind) (ws : List Word) (s : State) :
    Keeps [.checker, .latches] s (tapSlot k kind ws s) := by
  unfold tapSlot
  split
  · exact passBurst_keeps kind ws s
  · exact Keeps.refl _ s

/-! ## Stream acceptance -/

theorem gapCheck_keeps (n : Fin 32) (frame : BitVec 16) (s : State) : Keeps [.live, .contexts] s (gapCheck n frame s) := by
  unfold gapCheck
  split
  · exact (countStream_keeps s n .gaps).seq (modifyContext_keeps _ n _) (by decide)
  · exact (modifyContext_keeps s n _).mono (by decide)

theorem goLocked_keeps (n : Fin 32) (s : State) : Keeps [.contexts, .latches] s (goLocked n s) :=
  (modifyContext_keeps s n _).seq (raise_keeps _ _ _ _) (by decide)

theorem judgeToLock_keeps (n : Fin 32) (interval : Nat) (s : State) :
    Keeps [.contexts, .latches] s (judgeToLock n interval s) := by
  unfold judgeToLock
  split
  · dsimp only
    split
    · exact (modifyContext_keeps s n _).seq (goLocked_keeps n _) (by decide)
    · exact (modifyContext_keeps s n _).mono (by decide)
  · exact (modifyContext_keeps s n _).mono (by decide)

theorem judgeCadence_keeps (n : Fin 32) (interval : Nat) (s : State) :
    Keeps [.contexts, .live, .latches, .rings] s (judgeCadence n interval s) := by
  unfold judgeCadence
  split
  · exact (modifyContext_keeps s n _).mono (by decide)
  · have h : Keeps [.contexts, .live] s
        (countStream n .cadenceErrors (modifyContext n (fun c => { c with cadenceRun := c.cadenceRun + 1 }) s)) :=
      (modifyContext_keeps s n _).seq (countStream_keeps _ n _) (by decide)
    dsimp only
    split
    · exact h.seq (goLost_keeps n 1 _) (by decide)
    · exact h.mono (by decide)

theorem judgeInterval_keeps (n : Fin 32) (interval : Nat) (s : State) :
    Keeps [.contexts, .live, .latches, .rings] s (judgeInterval n interval s) := by
  unfold judgeInterval
  split
  · exact (judgeToLock_keeps n interval s).mono (by decide)
  · exact (judgeToLock_keeps n interval s).mono (by decide)
  · exact judgeCadence_keeps n interval s
  · exact Keeps.refl _ s
  · exact Keeps.refl _ s

theorem frameStartContext_keeps (n : Fin 32) (frame : BitVec 16) (s : State) :
    Keeps [.contexts, .live, .latches, .rings] s (frameStartContext n frame s) := by
  have h : Keeps [.live, .contexts] s
      (gapCheck n frame (modifyContext n (fun c => { c with refusing := false }) s)) :=
    (modifyContext_keeps s n _).seq (gapCheck_keeps n frame _) (by decide)
  unfold frameStartContext
  dsimp only
  split
  · exact (h.seq (modifyContext_keeps _ n _) (both := [.live, .contexts]) (by decide)).seq (judgeInterval_keeps n _ _)
      (by decide)
  · exact h.seq (modifyContext_keeps _ n _) (by decide)

theorem appendWrite_keeps (n : Fin 32) (i : Fin 8) (b : Burst) (last : Bool) (s : State) :
    Keeps [.writeQueue, .contexts, .checker, .latches] s (appendWrite n i b last s) := by
  refine Keeps.seq (first := [.writeQueue, .contexts]) ?_ (tapStream_keeps n b.kind b.payload _) (by decide)
  refine Keeps.seq (first := [.writeQueue]) ?_ (modifyContext_keeps _ n _) (by decide)
  intro f hf; cases f <;> first | rfl | simp at hf

theorem sealFrame_keeps (n : Fin 32) (i : Fin 8) (b : Burst) (s : State) :
    Keeps [.rings, .writeQueue, .contexts, .checker, .latches] s (sealFrame n i b s) :=
  (modifyBuffer_keeps s _ _).seq (appendWrite_keeps n i b true _) (by decide)

theorem claimTarget_keeps (n : Fin 32) (i : Fin 8) (b : Burst) (s : State) :
    Keeps [.contexts, .rings, .writeQueue, .checker, .live, .latches] s (claimTarget n i b s) := by
  have h1 : Keeps [.live] s (if (bufferOf s ⟨n, i⟩).state = .ready then countStream n .dropped s else s) := by
    split
    · exact countStream_keeps s n .dropped
    · exact Keeps.refl _ s
  have h2 := (h1.seq (modifyBuffer_keeps _ ⟨n, i⟩ (filledRecord s.contexts[n].fillTagCounter b.frameNumber))
    (both := [.live, .rings]) (by decide)).seq
    (modifyContext_keeps _ n (fun c => { c with fillTagCounter := c.fillTagCounter + 1#8 }))
    (both := [.live, .rings, .contexts]) (by decide)
  unfold claimTarget
  dsimp only
  split
  · exact h2.seq (sealFrame_keeps n i b _) (by decide)
  · exact h2.seq (appendWrite_keeps n i b false _) (by decide)

theorem refuseFrame_keeps (n : Fin 32) (s : State) : Keeps [.contexts, .live, .latches] s (refuseFrame n s) := by
  refine Keeps.seq (first := [.contexts, .live]) ?_ (raise_keeps _ _ _ _) (by decide)
  exact (countStream_keeps s n _).seq (modifyContext_keeps _ n _) (by decide)

theorem ringFrameStart_keeps (n : Fin 32) (b : Burst) (s : State) : Keeps acceptTouches s (ringFrameStart n b s) := by
  have h1 : Keeps [.rings, .live, .latches] s
      (match fillingBuffer s n with
       | none => s
       | some i => abandon ⟨n, i⟩ 4 s) := by
    split
    · exact Keeps.refl _ s
    · exact abandon_keeps _ 4 s
  unfold ringFrameStart
  dsimp only
  split
  · exact h1.seq (damage_keeps n _ _) (by decide)
  · split
    · exact h1.seq (claimTarget_keeps n _ b _) (by decide)
    · exact h1.seq (refuseFrame_keeps n _) (by decide)

theorem ringContinue_keeps (n : Fin 32) (b : Burst) (s : State) : Keeps acceptTouches s (ringContinue n b s) := by
  unfold ringContinue
  split
  · exact (countStream_keeps s n _).mono (by decide)
  · split
    · exact (abandon_keeps _ _ s).mono (by decide)
    · split
      · exact (sealFrame_keeps n _ b s).mono (by decide)
      · exact (modifyBuffer_keeps s _ _).seq (appendWrite_keeps n _ b false _) (by decide)

theorem acceptBurst_keeps (n : Fin 32) (b : Burst) (s : State) : Keeps acceptTouches s (acceptBurst n b s) := by
  unfold acceptBurst
  split
  · exact (frameStartContext_keeps n b.frameNumber s).seq (ringFrameStart_keeps n b _) (by decide)
  · exact ringContinue_keeps n b s

theorem judgeActivity_keeps (n : Fin 32) (s : State) : Keeps [.contexts, .latches, .rings] s (judgeActivity n s) := by
  unfold judgeActivity
  split
  · split
    · exact goLost_keeps n 0 s
    · exact (modifyContext_keeps s n _).mono (by decide)
  · exact Keeps.refl _ s

theorem overflowInterval_keeps (n : Fin 32) (s : State) : Keeps [.contexts, .latches] s (overflowInterval n s) := by
  unfold overflowInterval
  split
  · exact (modifyContext_keeps s n _).seq (raise_keeps _ _ _ _) (by decide)
  · exact Keeps.refl _ s

/-! ## The ingress ports and the dispatcher -/

theorem burstError_keeps (p : Fin 4) (c : IngressCounter) (cause : Nat) (s : State) :
    Keeps [.live, .latches] s (burstError p c cause s) :=
  (countIngress_keeps s p c).seq (raise_keeps _ _ _ _) (by decide)

theorem offerToFifo_keeps (p : Fin 4) (b : Burst) (s : State) :
    Keeps [.ingress, .live, .latches] s (offerToFifo p b s) := by
  unfold offerToFifo
  split
  · refine Keeps.seq (first := [.ingress]) ?_ (countIngress_keeps _ p _) (by decide)
    intro f hf; cases f <;> first | rfl | simp at hf
  · exact (countIngress_keeps s p _).seq (raise_keeps _ _ _ _) (by decide)

theorem receiveBurst_keeps (p : Fin 4) (r : Reception) (s : State) :
    Keeps [.ingress, .live, .latches] s (receiveBurst p r s) := by
  unfold receiveBurst judgeBurst
  split
  · split
    · exact (burstError_keeps p _ _ s).mono (by decide)
    · exact (burstError_keeps p _ _ s).mono (by decide)
    · exact (burstError_keeps p _ _ s).mono (by decide)
    · exact offerToFifo_keeps p _ s
  · exact Keeps.refl _ s

theorem intakeRequest_keeps (p : Fin 4) (b : Burst) (s : State) :
    Keeps [.requestQueue, .latches] s (intakeRequest p b s) := by
  unfold intakeRequest discardRequest
  split
  · split
    · intro f hf; cases f <;> first | rfl | simp at hf
    · exact (raise_keeps s _ _ _).mono (by decide)
  · exact (raise_keeps s _ _ _).mono (by decide)

theorem checkEntry_keeps (n : Fin 32) (s : State) : Keeps dispatchTouches s (checkEntry n s) := by
  unfold checkEntry
  split
  · exact (entryParityFailure_keeps n s).mono (by decide)
  · exact Keeps.refl _ s

theorem routeMedia_keeps (p : Fin 4) (n : Fin 32) (b : Burst) (s : State) :
    Keeps dispatchTouches s (routeMedia p n b s) := by
  unfold routeMedia
  split
  · split
    · exact (finishBurst_keeps s p).seq (acceptBurst_keeps n b _) (by decide)
    · intro f hf; cases f <;> first | rfl | simp at hf
  · exact (finishBurst_keeps s p).seq (misroute_keeps p _) (by decide)

theorem decideMedia_keeps (p : Fin 4) (b : Burst) (s : State) : Keeps dispatchTouches s (decideMedia p b s) := by
  unfold decideMedia
  split
  · exact (finishBurst_keeps s p).mono (by decide)
  · exact (checkEntry_keeps _ s).trans (routeMedia_keeps p _ b _)

theorem decideBurst_keeps (p : Fin 4) (b : Burst) (s : State) : Keeps dispatchTouches s (decideBurst p b s) := by
  unfold decideBurst
  split
  · exact (finishBurst_keeps s p).seq (intakeRequest_keeps p b _) (by decide)
  all_goals first | exact decideMedia_keeps p b s | exact (finishBurst_keeps s p).mono (by decide)

theorem dispatch_keeps (s : State) : Keeps dispatchTouches s (dispatch s) := by
  unfold dispatch
  split
  · split
    · exact Keeps.refl _ s
    · split
      · exact Keeps.refl _ s
      · exact decideBurst_keeps _ _ s
  · exact Keeps.refl _ s

theorem retryWaiting_keeps (s : State) : Keeps dispatchTouches s (retryWaiting s) := by
  have h : Keeps dispatchTouches s { s with dispatcher := { s.dispatcher with waiting := none } } := by
    intro f hf; cases f <;> first | rfl | simp at hf
  unfold retryWaiting
  split
  · split
    · exact Keeps.refl _ s
    · split
      · exact h
      · exact h.trans (decideBurst_keeps _ _ _)
  · exact Keeps.refl _ s

end Sys2Proof.Machine
end

