-- ==== Sys2Proof/Laws/TickFrames.lean ====
section
/-! SUPPORT. What the operations of emission, slots, the generator and the reference unit can touch; what a tick does to the
reference unit, and which works it holds. -/

namespace Sys2Proof.Machine

/-! ## Emission -/

theorem beginEmission_keeps (k : Fin 16) (r : EmissionRecord) (s : State) :
    Keeps [.live, .slots, .emissions] s (beginEmission k r s) :=
  ((countSlot_keeps s k 1 .emitted).seq (modifySlot_keeps _ k _) (both := [.live, .slots]) (by decide)).seq
    (modifyEmission_keeps _ k _) (by decide)

theorem emitFrame_keeps (k : Fin 16) (b : BufferName) (r : Bool) (s : State) :
    Keeps [.live, .slots, .emissions] s (emitFrame k b r s) := beginEmission_keeps k _ s

theorem emitSubstitute_keeps (k : Fin 16) (s : State) : Keeps [.live, .slots, .emissions] s (emitSubstitute k s) := by
  unfold emitSubstitute
  split
  · exact Keeps.refl _ s
  · exact beginEmission_keeps k _ s

theorem cutIfLate_keeps (k : Fin 16) (s : State) : Keeps [.live, .emissions, .latches] s (cutIfLate k s) := by
  unfold cutIfLate
  split
  · exact ((modifyEmission_keeps s k _).seq (countSlot_keeps _ k 1 .late) (both := [.live, .emissions]) (by decide)).seq
      (raise_keeps _ _ _ _) (by decide)
  · exact Keeps.refl _ s

/-! ## Slots -/

theorem routeParityFailure_keeps (k : Fin 16) (s : State) : Keeps slotTouches s (routeParityFailure k s) :=
  (modifyRoute_keeps s k _).seq (majorFault_keeps _ _ _ _ _) (by decide)

theorem adoptPending_keeps (k : Fin 16) (s : State) : Keeps slotTouches s (adoptPending k s) := by
  unfold adoptPending
  split
  · exact Keeps.refl _ s
  · split
    · unfold adoptEntry
      dsimp only
      split
      · exact (modifyRoute_keeps s k _).seq (modifySlot_keeps _ k _) (by decide)
      · exact (modifyRoute_keeps s k _).mono (by decide)
    · exact routeParityFailure_keeps k s

theorem checkActive_keeps (k : Fin 16) (s : State) : Keeps slotTouches s (checkActive k s) := by
  unfold checkActive
  split
  · exact routeParityFailure_keeps k s
  · exact Keeps.refl _ s

theorem releaseCurrent_keeps (k : Fin 16) (s : State) : Keeps [.slots, .rings, .contexts] s (releaseCurrent k s) := by
  unfold releaseCurrent
  split
  · exact Keeps.refl _ s
  · exact (letGo_keeps _ s).seq (modifySlot_keeps _ k _) (by decide)

/-- R58: a slot that lets go of its current buffer has none; the other slots stay. -/
theorem releaseCurrent_slots (k : Fin 16) (s : State) :
    (releaseCurrent k s).slots = s.slots.set k { s.slots[k] with current := none } := by
  unfold releaseCurrent
  split
  · rename_i h
    rw [← h]
    exact (table_set_same s.slots k).symm
  · rename_i c _
    have h : (letGo c.buffer s).slots = s.slots := letGo_keeps c.buffer s .slots (by decide)
    simp only [modifySlot, modifyAt, h]

theorem goOff_keeps (k : Fin 16) (s : State) : Keeps [.slots, .rings, .contexts] s (goOff k s) :=
  (releaseCurrent_keeps k s).seq (modifySlot_keeps _ k _) (by decide)

theorem raiseSubstitute_keeps (k : Fin 16) (st : SlotState) (c : SubstCause) (s : State) :
    Keeps [.latches] s (raiseSubstitute k st c s) := by
  unfold raiseSubstitute
  split
  · exact Keeps.refl _ s
  · exact raise_keeps s _ _ _

theorem substitute_keeps (k : Fin 16) (c : SubstCause) (s : State) :
    Keeps [.slots, .rings, .contexts, .live, .latches, .emissions] s (substitute k c s) := by
  have h := (((releaseCurrent_keeps k s).seq
      (modifySlot_keeps _ k (fun t => { t with state := .subst, holdTimer := 0, cause := some c }))
      (both := [.slots, .rings, .contexts]) (by decide)).seq (countSlot_keeps _ k 1 .substitutes)
      (both := [.slots, .rings, .contexts, .live]) (by decide)).seq (raiseSubstitute_keeps k s.slots[k].state c _)
      (both := [.slots, .rings, .contexts, .live, .latches]) (by decide)
  unfold substitute
  dsimp only
  split
  · exact h.mono (by decide)
  · exact h.seq (emitSubstitute_keeps k _) (by decide)

theorem takeNew_keeps (k : Fin 16) (b : BufferName) (s : State) :
    Keeps [.slots, .rings, .contexts, .live, .emissions] s (takeNew k b s) := by
  unfold takeNew
  dsimp only
  exact ((((releaseCurrent_keeps k s).seq (takeHold_keeps b _) (both := [.slots, .rings, .contexts]) (by decide)).seq
    (modifySlot_keeps _ k _) (both := [.slots, .rings, .contexts]) (by decide)).seq (countSlot_keeps _ k _ .skips)
    (both := [.slots, .rings, .contexts, .live]) (by decide)).seq (emitFrame_keeps k b false _) (by decide)

theorem repeatFrame_keeps (k : Fin 16) (st : SlotState) (timer : Nat) (b : BufferName) (s : State) :
    Keeps [.slots, .live, .emissions] s (repeatFrame k st timer b s) :=
  ((modifySlot_keeps s k _).seq (countSlot_keeps _ k 1 .repeats) (both := [.slots, .live]) (by decide)).seq
    (emitFrame_keeps k b true _) (by decide)

theorem chooseLocked_keeps (k : Fin 16) (n : Fin 32) (s : State) :
    Keeps [.slots, .rings, .contexts, .live, .latches, .emissions] s (chooseLocked k n s) := by
  unfold chooseLocked
  dsimp only
  split
  · split
    · exact substitute_keeps k _ s
    · split
      · exact substitute_keeps k _ s
      · exact (repeatFrame_keeps k _ _ _ s).mono (by decide)
  · split
    · exact (takeNew_keeps k _ s).mono (by decide)
    · split
      · exact substitute_keeps k _ s
      · split
        · exact substitute_keeps k _ s
        · exact (repeatFrame_keeps k _ _ _ s).mono (by decide)

theorem chooseUnlocked_keeps (k : Fin 16) (s : State) :
    Keeps [.slots, .rings, .contexts, .live, .latches, .emissions] s (chooseUnlocked k s) := by
  unfold chooseUnlocked
  dsimp only
  split
  · exact substitute_keeps k _ s
  · split
    · split
      · exact (modifySlot_keeps s k _).mono (by decide)
      · split
        · exact substitute_keeps k _ s
        · exact (repeatFrame_keeps k _ _ _ s).mono (by decide)
    · split
      · exact substitute_keeps k _ s
      · split
        · exact substitute_keeps k _ s
        · exact (repeatFrame_keeps k _ _ _ s).mono (by decide)

theorem choose_keeps (k : Fin 16) (failed : Bool) (s : State) :
    Keeps [.slots, .rings, .contexts, .live, .latches, .emissions] s (choose k failed s) := by
  unfold choose
  dsimp only
  split
  · exact substitute_keeps k _ s
  · split
    · split
      · exact substitute_keeps k _ s
      · split
        · exact substitute_keeps k _ s
        · exact substitute_keeps k _ s
        · exact chooseLocked_keeps k _ s
        · exact chooseUnlocked_keeps k s
        · exact chooseUnlocked_keeps k s
    · exact (goOff_keeps k s).mono (by decide)

theorem countDownHold_keeps (k : Fin 16) (s : State) : Keeps [.slots] s (countDownHold k s) := by
  unfold countDownHold
  split
  · exact modifySlot_keeps s k _
  · exact Keeps.refl _ s

theorem expireHold_keeps (k : Fin 16) (s : State) :
    Keeps [.slots, .rings, .contexts, .live, .latches, .emissions] s (expireHold k s) := by
  unfold expireHold
  split
  · exact (modifySlot_keeps s k _).seq (substitute_keeps k _ _) (by decide)
  · exact Keeps.refl _ s

theorem slotWork_keeps (k : Fin 16) (s : State) : Keeps slotTouches s (slotWork k s) := by
  unfold slotWork
  dsimp only
  exact (((((expireHold_keeps k s).seq (adoptPending_keeps k _) (both := slotTouches) (by decide)).seq
    (cutIfLate_keeps k _) (both := slotTouches) (by decide)).seq (checkActive_keeps k _) (both := slotTouches)
    (by decide)).seq (choose_keeps k _ _) (both := slotTouches) (by decide)).seq (countDownHold_keeps k _) (by decide)

/-! ## The generator -/

theorem offerBurst_keeps (n : Fin 32) (s : State) : Keeps [.generator] s (offerBurst n s) := by
  intro f hf; cases f <;> first | rfl | simp at hf

theorem endGeneratedFrame_keeps (s : State) : Keeps [.generator, .latches] s (endGeneratedFrame s) := by
  unfold endGeneratedFrame
  dsimp only
  split
  · refine Keeps.seq (first := [.generator]) ?_ (raiseGeneratorTest_keeps 0 _) (by decide)
    intro f hf; cases f <;> first | rfl | simp at hf
  · split
    · intro f hf; cases f <;> first | rfl | simp at hf
    · intro f hf; cases f <;> first | rfl | simp at hf

theorem afterTaking_keeps (n : Fin 32) (s : State) : Keeps [.generator, .latches] s (afterTaking n s) := by
  have h : Keeps [.generator] s
      { s with generator := { s.generator with burstsTaken := s.generator.burstsTaken + 1 } } := by
    intro f hf; cases f <;> first | rfl | simp at hf
  unfold afterTaking
  dsimp only
  split
  · exact h.seq (endGeneratedFrame_keeps _) (by decide)
  · exact h.seq (offerBurst_keeps n _) (by decide)

theorem takeGenerated_keeps (s : State) : Keeps generatorTouches s (takeGenerated s) := by
  unfold takeGenerated
  split
  · split
    · exact (acceptBurst_keeps _ _ s).seq (afterTaking_keeps _ _) (by decide)
    · exact Keeps.refl _ s
  · exact Keeps.refl _ s

theorem startGeneratedFrame_keeps (s : State) :
    Keeps (generatorTouches ++ [.faults, .ingress, .dispatcher]) s (startGeneratedFrame s) := by
  unfold startGeneratedFrame
  split
  · split
    · exact Keeps.refl _ s
    · split
      · refine Keeps.seq (first := [.generator]) ?_ (takeGenerated_keeps _) (by decide)
        refine Keeps.seq (first := [.generator]) ?_ (offerBurst_keeps _ _) (by decide)
        intro f hf; cases f <;> first | rfl | simp at hf
      · refine Keeps.seq (first := [.generator]) ?_ (entryParityFailure_keeps _ _) (by decide)
        intro f hf; cases f <;> first | rfl | simp at hf
  · exact Keeps.refl _ s

/-! ## The tick -/

/-- Taking a list's repeats away leaves none. -/
theorem nodup_eraseDups {α : Type} [DecidableEq α] (l : List α) : l.eraseDups.Nodup := by
  induction h : l.length using Nat.strongRecOn generalizing l with
  | ind n ih =>
    cases l with
    | nil => simp
    | cons a rest =>
      rw [List.eraseDups_cons, List.nodup_cons]
      refine ⟨by simp [List.mem_eraseDups], ih _ ?_ _ rfl⟩
      have := List.length_filter_le (fun b => !b == a) rest
      simp only [List.length_cons] at h
      omega

/-- The works of a tick: those the command names, every stream's count and every slot. -/
theorem mem_tickWorks (order : List TickWork) (w : TickWork) :
    w ∈ tickWorks order ↔ w ∈ order ∨ (∃ n : Fin 32, w = .count n) ∨ ∃ k : Fin 16, w = .slot k := by
  by_cases h : w ∈ order
  · simp [tickWorks, h]
  · simp [tickWorks, h, mem_indexes, eq_comm]

/-- No work is done twice at a tick. -/
theorem nodup_tickWorks (order : List TickWork) : (tickWorks order).Nodup := by
  have h1 : ((indexes 32).map TickWork.count).Nodup := by decide +kernel
  have h2 : ((indexes 16).map TickWork.slot).Nodup := by decide +kernel
  unfold tickWorks
  refine List.nodup_append.mpr ⟨h1.filter _, List.nodup_append.mpr ⟨nodup_eraseDups order, h2.filter _, ?_⟩, ?_⟩
  · intro a ha b hb e
    simp [e] at ha
    simp [ha] at hb
  · intro a ha b hb e
    simp [← e] at ha hb
    obtain ⟨⟨n, _, rfl⟩, hn⟩ := ha
    simp [hn] at hb
theorem finishTick_keeps (s : State) : Keeps tickTouches s (finishTick s) :=
  (Keeps.forEach _ (fun n t => judgeActivity_keeps n t) _ s).seq (Keeps.forEach _ (fun k t => expireHold_keeps k t) _ _)
    (by decide)

theorem countTick_keeps (n : Fin 32) (s : State) : Keeps [.contexts] s (countTick n s) := modifyContext_keeps s n _

theorem doTickWork_keeps (w : TickWork) (s : State) : Keeps tickTouches s (doTickWork w s) := by
  unfold doTickWork
  split
  · exact (countTick_keeps _ s).mono (by decide)
  · exact (judgeActivity_keeps _ s).mono (by decide)
  · exact (slotWork_keeps _ s).mono (by decide)
  · exact (startGeneratedFrame_keeps s).mono (by decide)

theorem numberTick_keeps (s : State) : Keeps [.reference, .generator] s (numberTick s) := by
  intro f hf; cases f <;> first | rfl | simp at hf

theorem makeTick_keeps (order : List TickWork) (s : State) : Keeps (.reference :: tickTouches) s (makeTick order s) :=
  ((finishTick_keeps s).seq (numberTick_keeps _) (both := .reference :: tickTouches) (by decide)).seq
    (Keeps.forEach _ (fun w t => doTickWork_keeps w t) _ _) (by decide)

/-- R20: a tick changes the reference unit by its tick number alone. -/
theorem makeTick_reference (order : List TickWork) (s : State) :
    (makeTick order s).reference = { s.reference with tickNumber := s.reference.tickNumber + 1#32 } := by
  have h1 : (finishTick s).reference = s.reference := finishTick_keeps s .reference (by decide)
  have h2 : (makeTick order s).reference = (numberTick (finishTick s)).reference :=
    Keeps.forEach (touched := tickTouches) _ (fun w t => doTickWork_keeps w t) _ _ .reference (by decide)
  rw [h2, numberTick, h1]

/-! ## TBCLK (R19) -/

theorem whileClocked_runs {s : State} (h : s.timebaseRuns = true) (f : State → State) : whileClocked f s = f s := by
  simp [whileClocked, h]

theorem whileClocked_stands {s : State} (h : s.timebaseRuns = false) (f : State → State) : whileClocked f s = s := by
  simp [whileClocked, h]

theorem whileClocked_keeps {touched : List Field} {f : State → State} (h : ∀ t, Keeps touched t (f t)) (s : State) :
    Keeps touched s (whileClocked f s) := by
  unfold whileClocked
  split
  · exact h s
  · exact Keeps.refl _ s

/-! ## The reference unit's rows -/

theorem raiseRefState_keeps (st : RefState) (s : State) : Keeps [.latches] s (raiseRefState st s) := raise_keeps s _ _ _

theorem freeExpiry_keeps (order : List TickWork) (s : State) : Keeps referenceTouches s (freeExpiry order s) := by
  unfold freeExpiry
  split
  · exact (makeTick_keeps order s).seq (modifyReference_keeps _ _) (by decide)
  · exact Keeps.refl _ s

theorem raiseAtClose_keeps (x y : RefState) (s : State) : Keeps [.latches] s (raiseAtClose x y s) := by
  unfold raiseAtClose
  split
  · exact Keeps.refl _ s
  · exact raiseRefState_keeps y s

theorem closeWindow_keeps (order : List TickWork) (s : State) : Keeps referenceTouches s (closeWindow order s) := by
  unfold closeWindow
  split
  · exact ((((makeTick_keeps order s).seq (countReference_keeps _ _) (both := referenceTouches) (by decide)).seq
      (modifyReference_keeps _ _) (both := referenceTouches) (by decide)).seq (raiseAtClose_keeps _ _ _)
      (both := referenceTouches) (by decide)).seq (modifyReference_keeps _ _) (by decide)
  · exact Keeps.refl _ s

theorem searchFlywheel_keeps (order : List TickWork) (s : State) : Keeps referenceTouches s (searchFlywheel order s) := by
  unfold searchFlywheel
  split
  · exact ((makeTick_keeps order s).seq (countReference_keeps _ _) (both := referenceTouches) (by decide)).seq
      (modifyReference_keeps _ _) (by decide)
  · exact Keeps.refl _ s

theorem edgeWhileFollowing_keeps (order : List TickWork) (s : State) :
    Keeps referenceTouches s (edgeWhileFollowing order s) := by
  have h := (makeTick_keeps order s).seq
    (modifyReference_keeps _ fun r => adoptedParams false { r with periodCounter := 0, missedRun := 0, state := .tracking })
    (both := referenceTouches) (by decide)
  unfold edgeWhileFollowing
  dsimp only
  split
  · exact (countReference_keeps s _).mono (by decide)
  · split
    · unfold edgeInWindow
      dsimp only
      split
      · exact h.seq (raiseRefState_keeps _ _) (by decide)
      · exact h
    · exact Keeps.refl _ s

theorem edgeWhileSearching_keeps (order : List TickWork) (s : State) :
    Keeps referenceTouches s (edgeWhileSearching order s) := by
  have h := (modifyReference_keeps s regained).seq (raiseRefState_keeps .tracking _) (both := referenceTouches) (by decide)
  unfold edgeWhileSearching
  split
  · unfold regain
    dsimp only
    split
    · exact (h.seq (makeTick_keeps order _) (both := referenceTouches) (by decide)).seq (modifyReference_keeps _ _) (by decide)
    · exact h.seq (modifyReference_keeps _ _) (by decide)
  · exact (modifyReference_keeps s _).mono (by decide)

theorem seeEdge_keeps (order : List TickWork) (s : State) : Keeps referenceTouches s (seeEdge order s) := by
  unfold seeEdge
  split
  · exact Keeps.refl _ s
  · exact edgeWhileFollowing_keeps order s
  · exact edgeWhileFollowing_keeps order s
  · exact edgeWhileSearching_keeps order s

end Sys2Proof.Machine
end

