-- ==== Sys2Proof/Laws/QueueFrames.lean ====
section
/-! SUPPORT. What the operations of frame memory, the resets, the egress ports and the management requests can touch. -/

namespace Sys2Proof.Machine

/-! ## Frame memory and arbitration -/

theorem startAccess_keeps (a : Access) (s : State) : Keeps [.arbiter, .writeQueue, .emissions] s (startAccess a s) := by
  unfold startAccess
  dsimp only
  split
  · intro f hf; cases f <;> first | rfl | simp at hf
  · exact ((modifyArbiter_keeps s _).trans (modifyArbiter_keeps _ _)).seq (modifyEmission_keeps _ _ _) (by decide)
  · exact (modifyArbiter_keeps s _).mono (by decide)
  · exact (modifyArbiter_keeps s _).mono (by decide)

theorem grantMemory_keeps (s : State) : Keeps [.arbiter, .writeQueue, .emissions] s (grantMemory s) := by
  unfold grantMemory
  split
  · split
    · exact Keeps.refl _ s
    · exact startAccess_keeps _ s
  · exact Keeps.refl _ s

theorem completeFrame_keeps (b : BufferName) (s : State) : Keeps [.contexts, .rings, .live] s (completeFrame b s) := by
  unfold completeFrame
  dsimp only
  exact ((modifyContext_keeps s _ _).seq (modifyBuffer_keeps _ b _) (both := [.contexts, .rings]) (by decide)).seq
    (countStream_keeps _ _ _) (by decide)

theorem ringCompletion_keeps (e : WriteEntry) (s : State) : Keeps [.contexts, .rings, .live] s (ringCompletion e s) := by
  unfold ringCompletion
  dsimp only
  split
  · exact completeFrame_keeps _ s
  · exact Keeps.refl _ s

theorem completeWrite_keeps (e : WriteEntry) (rest : List WriteEntry) (s : State) :
    Keeps (faultTouches ++ [.memory, .writeQueue, .arbiter, .contexts, .rings]) s (completeWrite e rest s) := by
  unfold completeWrite
  dsimp only
  refine Keeps.seq (first := [.memory, .writeQueue, .arbiter, .contexts, .rings, .live]) ?_ (judgeAccess_keeps _ _ _ _ _)
    (by decide)
  refine Keeps.seq (first := [.memory, .writeQueue, .arbiter, .contexts, .rings, .live]) ?_ (settleClosing_keeps _ _)
    (by decide)
  refine Keeps.seq (first := [.memory, .writeQueue, .arbiter, .contexts]) ?_ (ringCompletion_keeps e _) (by decide)
  refine Keeps.seq (first := [.memory, .writeQueue, .arbiter]) ?_ (modifyContext_keeps _ _ _) (by decide)
  refine Keeps.seq (first := [.memory, .writeQueue]) ?_ (endAccess_keeps _) (by decide)
  intro f hf; cases f <;> first | rfl | simp at hf

theorem reportMediaError_keeps (r : SlotRead) (s : State) : Keeps [.rings] s (reportMediaError r s) := by
  unfold reportMediaError
  split
  · exact modifyBuffer_keeps s _ _
  · exact Keeps.refl _ s

theorem completeSlotRead_keeps (k : Fin 16) (r : SlotRead) (s : State) :
    Keeps (faultTouches ++ [.arbiter, .emissions, .rings]) s (completeSlotRead k r s) := by
  unfold completeSlotRead
  dsimp only
  refine Keeps.seq (first := [.arbiter, .emissions, .rings]) ?_ (judgeAccess_keeps _ _ _ _ _) (by decide)
  have h := (endAccess_keeps s).seq
    (modifyEmission_keeps _ k (takeBlock r (s.memory.deliverWords (64 * r.block) 64)
      (s.memory.worst (32 * r.block) 32 == .uncorrectable))) (both := [.arbiter, .emissions]) (by decide)
  split
  · exact h.seq (reportMediaError_keeps r _) (by decide)
  · exact h.mono (by decide)

theorem offerReply_keeps (r : Reply) (s : State) : Keeps [.replyQueue, .executor] s (offerReply r s) := by
  unfold offerReply
  split
  · intro f hf; cases f <;> first | rfl | simp at hf
  · intro f hf; cases f <;> first | rfl | simp at hf

theorem completeManagement_keeps (j : MemoryJob) (s : State) :
    Keeps (faultTouches ++ [.memory, .arbiter, .replyQueue, .executor]) s (completeManagement j s) := by
  unfold completeManagement
  refine Keeps.seq (first := faultTouches ++ [.memory, .arbiter]) ?_ (offerReply_keeps _ _) (by decide)
  refine Keeps.seq (first := [.memory, .arbiter]) ?_ (judgeAccess_keeps _ _ _ _ _) (by decide)
  refine Keeps.seq (first := [.memory]) ?_ (endAccess_keeps _) (by decide)
  intro f hf; cases f <;> first | rfl | simp at hf

theorem completeRefresh_keeps (s : State) : Keeps [.arbiter] s (completeRefresh s) := by
  unfold completeRefresh
  split
  · exact (endAccess_keeps s).trans (modifyArbiter_keeps _ _)
  · exact Keeps.refl _ s

theorem expireRefreshTimer_keeps (s : State) :
    Keeps [.arbiter, .faults, .ingress, .dispatcher, .generator, .latches] s (expireRefreshTimer s) := by
  unfold expireRefreshTimer
  split
  · split
    · exact (modifyArbiter_keeps s _).mono (by decide)
    · exact (modifyArbiter_keeps s _).seq (majorFault_keeps _ _ _ _ _) (by decide)
  · exact Keeps.refl _ s

/-! ## Resets -/

theorem powerOn_keeps (memsz : BitVec 2) (cells : List Host.Cell) (bad : List Nat) (s : State) :
    Keeps (.timebaseRuns :: resetTouches) s (powerOn memsz cells bad s) := by
  intro f hf; cases f <;> first | rfl | simp at hf

theorem beginPinReset_keeps (s : State) : Keeps resetTouches s (beginPinReset s) := by
  unfold beginPinReset
  split
  · exact Keeps.refl _ s
  · intro f hf; cases f <;> first | rfl | simp at hf

theorem endPinReset_keeps (memsz : BitVec 2) (s : State) : Keeps resetTouches s (endPinReset memsz s) := by
  intro f hf; cases f <;> first | rfl | simp at hf

theorem managementReset_keeps (s : State) : Keeps resetTouches s (managementReset s) := by
  intro f hf; cases f <;> first | rfl | simp at hf

/-! ## The egress ports -/

theorem takeBurst_keeps (p : Fin 4) (i : Fin 17) (s : State) : Keeps [.egress, .emissions] s (takeBurst p i s) := by
  unfold takeBurst
  dsimp only
  split
  · exact (modifyEgress_keeps s p _).seq (modifyEmission_keeps _ _ _) (by decide)
  · exact (modifyEgress_keeps s p _).mono (by decide)

theorem replyDone_keeps (s : State) : Keeps resetTouches s (replyDone s) := by
  have h (rest : List Reply) : Keeps resetTouches s { s with replyQueue := rest } := by
    intro f hf; cases f <;> first | rfl | simp at hf
  unfold replyDone
  split
  · exact Keeps.refl _ s
  · split
    · exact (h _).trans (managementReset_keeps _)
    · exact h _

theorem burstDone_keeps (p : Fin 4) (from_ : Participant) (b : Burst) (s : State) :
    Keeps resetTouches s (burstDone p from_ b s) := by
  unfold burstDone
  split
  · exact (tapSlot_keeps _ _ _ s).seq (modifyEmission_keeps _ _ _) (by decide)
  · exact Keeps.refl _ s
  · exact replyDone_keeps s

/-- The completion of a slot's burst can touch only its emission and the checker (R121, R162). -/
theorem burstDone_slot_keeps (p : Fin 4) (k : Fin 16) (b : Burst) (s : State) :
    Keeps [.emissions, .checker, .latches] s (burstDone p (.slotEntry k) b s) :=
  (tapSlot_keeps k _ _ s).seq (modifyEmission_keeps _ _ _) (by decide)

theorem startSending_keeps (p : Fin 4) (from_ : Participant) (b : Burst) (s : State) :
    Keeps [.egress] s (startSending p from_ b s) := modifyEgress_keeps s p _

theorem grantEgress_keeps (p : Fin 4) (s : State) : Keeps resetTouches s (grantEgress p s) := by
  unfold grantEgress
  split
  · split
    · exact Keeps.refl _ s
    · split
      · exact Keeps.refl _ s
      · split
        · exact (takeBurst_keeps p _ s).seq (startSending_keeps p _ _ _) (by decide)
        · exact ((takeBurst_keeps p _ s).seq (countEgress_keeps _ p _) (both := resetTouches) (by decide)).trans
            (burstDone_keeps p _ _ _)
  · exact Keeps.refl _ s

theorem completeEgress_keeps (p : Fin 4) (s : State) : Keeps resetTouches s (completeEgress p s) := by
  unfold completeEgress
  split
  · exact Keeps.refl _ s
  · exact ((modifyEgress_keeps s p _).seq (countEgress_keeps _ p _) (both := resetTouches) (by decide)).trans
      (burstDone_keeps p _ _ _)

theorem queueWaitingReply_keeps (s : State) : Keeps [.replyQueue, .executor] s (queueWaitingReply s) := by
  unfold queueWaitingReply
  split
  · exact offerReply_keeps _ s
  all_goals exact Keeps.refl _ s

/-! ## Requests -/

theorem answerRequest_keeps (p : List Word) (a : Answer) (s : State) :
    Keeps [.replyQueue, .executor] s (answerRequest p a s) := by
  unfold answerRequest
  split
  · exact offerReply_keeps _ s
  · exact offerReply_keeps _ s
  · exact offerReply_keeps _ s
  · intro f hf; cases f <;> first | rfl | simp at hf

/-- What a request's path touches beside what its own rule touches (R179, R182). -/
theorem runRequest_keeps {touched : List Field} (code : BitVec 8) (body : RequestBody)
    (h : ∀ ops s, Keeps touched s (body ops s).1) (s : State) :
    Keeps (pathTouches ++ touched) s (runRequest code body s) := by
  have sub : touched.all (fun f => (pathTouches ++ touched).contains f) = true := by
    rw [List.all_eq_true]
    intro f hf
    rw [List.contains_iff_mem]
    exact List.mem_append_right _ hf
  have most (few : List Field) (t u : State) (g : Keeps few t u)
      (hfew : few.all (fun f => pathTouches.contains f) = true) :
      Keeps (pathTouches ++ touched) t u := by
    apply g.mono
    rw [List.all_eq_true] at hfew ⊢
    intro f hf
    rw [List.contains_iff_mem]
    exact List.mem_append_left _ (List.contains_iff_mem.mp (hfew f hf))
  unfold runRequest
  split
  · exact Keeps.refl _ s
  · split
    · dsimp only
      exact ((most _ _ _ (takeRequest_keeps s _) (by decide)).trans ((h _ _).mono sub)).trans
        (most _ _ _ (answerRequest_keeps _ _ _) (by decide))
    · exact Keeps.refl _ s

/-- A request runs by its own rule or finds nothing to take (R179). -/
theorem runRequest_cases (code : BitVec 8) (body : RequestBody) (s : State) :
    runRequest code body s = s ∨
      ∃ p rest, RequestReady code p rest { s with resetHeld := none } ∧
        runRequest code body s =
          answerRequest p (body (requestOperands p) (takeRequest rest s)).2
            (body (requestOperands p) (takeRequest rest s)).1 := by
  unfold runRequest
  split
  · exact Or.inl rfl
  · rename_i p rest hq
    split
    · rename_i hg
      rw [Bool.and_eq_true, Bool.and_eq_true] at hg
      obtain ⟨⟨hi, hf⟩, hc⟩ := hg
      refine Or.inr ⟨p, rest, ⟨rfl, ?_, hq, hf, by simpa using hc⟩, rfl⟩
      unfold executorIdle at hi
      show s.executor = .idle
      revert hi
      cases s.executor <;> simp
    · exact Or.inl rfl

/-- R179: what a request that is ready does. -/
theorem runRequest_ready {code : BitVec 8} {p : List Word} {rest : List (List Word)} {s : State}
    (h : RequestReady code p rest s) (body : RequestBody) :
    runRequest code body s =
      answerRequest p (body (requestOperands p) (takeRequest rest s)).2
        (body (requestOperands p) (takeRequest rest s)).1 := by
  obtain ⟨_, hi, hq, hf, hc⟩ := h
  have he : executorIdle s = true := by unfold executorIdle; rw [hi]
  unfold runRequest
  rw [hq]
  simp only [he, hf, hc, beq_self_eq_true, Bool.and_self, if_true]

/-- R186: a meaning of a part whose RST_N is not low runs. -/
theorem whileRunning_running {s : State} (h : s.resetHeld = none) (f : State → State) : whileRunning s f = f s := by
  unfold whileRunning
  rw [h]
  rfl

theorem whileRunning_held {s : State} (h : s.resetHeld.isSome = true) (f : State → State) : whileRunning s f = s := by
  unfold whileRunning
  rw [if_pos h]

/-- The first failing check decides, and the state is then as it was. -/
theorem checked_cases (checks : List (Bool × Answer)) (s : State) (effect : State × Answer) :
    checked checks s effect = effect ∨ ∃ a, firstFailure checks = some a ∧ checked checks s effect = (s, a) := by
  unfold checked
  split
  · rename_i a h
    exact Or.inr ⟨a, h, rfl⟩
  · exact Or.inl rfl

theorem checked_keeps {touched : List Field} (checks : List (Bool × Answer)) (s : State) (effect : State × Answer)
    (h : Keeps touched s effect.1) : Keeps touched s (checked checks s effect).1 := by
  unfold checked
  split
  · exact Keeps.refl _ s
  · exact h

/-- Every check good: no check fails. -/
theorem firstFailure_none (checks : List (Bool × Answer)) : firstFailure checks = none ↔ ∀ c ∈ checks, c.1 = true := by
  induction checks with
  | nil => simp [firstFailure]
  | cons c rest ih =>
    obtain ⟨good, a⟩ := c
    cases good <;> simp [firstFailure, ih]

/-- R182: a place in the reply queue is enough for the reply to join its tail. -/
theorem offerReply_room {s : State} (r : Reply) (h : s.replyQueue.length < 4) :
    offerReply r s =
      { s with replyQueue := s.replyQueue ++ [r], executor := if r.isResetPart then .executing else .idle } := by
  unfold offerReply
  rw [if_pos (show s.replyQueue.length < Config.replyQueueSize from h)]

/-- R182: with four replies held the executor waits with the reply. -/
theorem offerReply_full {s : State} (r : Reply) (h : 4 ≤ s.replyQueue.length) :
    offerReply r s = { s with executor := .waitReplySpace r } := by
  unfold offerReply
  rw [if_neg (show ¬ s.replyQueue.length < Config.replyQueueSize from Nat.not_lt.mpr h)]

end Sys2Proof.Machine
end

