-- ==== Sys2Proof/Laws/Step.lean ====
section
/-! SUPPORT. The ways a step can answer a next state. -/

namespace Sys2Proof.Machine

/-- R186: while RST_N is low an empty queue leaves the part as it is; else the part takes an event of its own that is due, or a
timebase unit passes (log entry 3). -/
theorem idleStep_cases {s t : State} (h : idleStep s = .next t) :
    (s.resetHeld.isSome = true ∧ t = s) ∨ (∃ c, s.resetHeld = none ∧ dueEvent s = some c ∧ exec c s = .next t) ∨
      (s.resetHeld = none ∧ dueEvent s = none ∧ t = timeUnit s) := by
  unfold idleStep at h
  split at h
  · rename_i hr
    injection h with h
    exact Or.inl ⟨hr, h.symm⟩
  · rename_i hr
    have hn : s.resetHeld = none := by simpa using hr
    split at h
    · rename_i c hc
      exact Or.inr (Or.inl ⟨c, hn, hc, h⟩)
    · rename_i hd
      injection h with h
      exact Or.inr (Or.inr ⟨hn, hd, h.symm⟩)

/-- A property that every command, and a timebase unit, keep is kept by every step, when it does not look at the queue. -/
theorem keptByStep_of {inv : State → Prop} (queue : ∀ (s : State) (q : List Instr), inv s → inv { s with pending := q })
    (commands : ∀ (c : Instr) (s t : State), inv s → exec c s = .next t → inv t)
    (unit : ∀ s, inv s → inv (timeUnit s)) : KeptByStep inv := by
  intro s t hs h
  unfold step at h
  split at h
  · rename_i c rest _
    exact commands c _ t (queue s rest hs) h
  · rcases idleStep_cases h with ⟨_, e⟩ | ⟨c, _, _, hc⟩ | ⟨_, _, e⟩
    · exact e ▸ hs
    · exact commands c s t hs hc
    · exact e ▸ unit s hs

theorem upsetBy_keeps (u : Upset) (s : State) : Keeps [.entries, .routes, .memory, .timebaseRuns] s (upsetBy u s) := by
  cases u <;> intro f hf <;> cases f <;> first | rfl | simp at hf

theorem takeUpset_keeps (s : State) : Keeps [.entries, .routes, .memory, .timebaseRuns, .upsets] s (takeUpset s) := by
  unfold takeUpset
  split
  · exact Keeps.refl _ s
  · refine Keeps.seq (first := [.upsets]) ?_ (upsetBy_keeps _ _) (by decide)
    intro f hf; cases f <;> first | rfl | simp at hf

theorem countUnit_keeps (s : State) : Keeps [.reference, .contexts, .arbiter] s (countUnit s) := by
  intro f hf; cases f <;> first | rfl | simp at hf

theorem timeUnit_keeps (s : State) :
    Keeps [.reference, .contexts, .arbiter, .entries, .routes, .memory, .timebaseRuns, .upsets] s (timeUnit s) :=
  (whileClocked_keeps countUnit_keeps s).seq (takeUpset_keeps _) (by decide)

end Sys2Proof.Machine
end

