-- ==== Sys2Proof/Tests/Slice0.lean ====
section
/-! SUPPORT. Tests: ill-formed commands, check words and headers worked out by hand, small worked steps of the spec, and for every
statement with hypotheses a state and operands that meet them. -/

namespace Sys2Proof.Tests

set_option Elab.async false

open Sys2Proof.Machine

/-! ## Ill-formed commands -/

theorem test_image_cells_unsorted : (Instr.powerOnReset 0 [(5, 1), (4, 1)] []).wellFormed = false := by decide +kernel
theorem test_image_cell_outside : (Instr.powerOnReset 0 [(16777216, 1)] []).wellFormed = false := by decide +kernel
theorem test_image_cell_reads_as_unlisted : (Instr.powerOnReset 0 [(5, 0)] []).wellFormed = false := by decide +kernel
theorem test_image_bits_repeated : (Instr.powerOnReset 0 [] [7, 7]).wellFormed = false := by decide +kernel
theorem test_image_bit_outside : (Instr.powerOnReset 0 [] [150994944]).wellFormed = false := by decide +kernel
theorem test_image_well_formed : (Instr.powerOnReset 0 [(0, 1), (16777215, 255)] [0, 150994943]).wellFormed = true := by
  decide +kernel
theorem test_tick_work_repeated_edge : (Instr.refEdge [.slot 3, .judge 0, .slot 3]).wellFormed = false := by decide +kernel
theorem test_tick_work_repeated_free : (Instr.freePeriodExpiry [.generator, .generator]).wellFormed = false := by decide +kernel
theorem test_tick_work_repeated_close : (Instr.windowClose [.judge 0, .judge 0]).wellFormed = false := by decide +kernel
theorem test_tick_work_repeated_flywheel : (Instr.searchingFlywheel [.slot 0, .slot 0]).wellFormed = false := by decide +kernel

/-! ## Check words and headers -/

/-- The request burst of a ReadIdentity with transaction tag 5Ah: header, then the two words of its record. -/
def identityBurst : List Word := [0xFD802000#32, 0#32, 0x5A010000#32, 0#32]

/-- A SINGLE of one word on tag 7 with frame number 1234h. -/
def singleWords : List Word := [0x1D001000#32, 0x12340000#32, 0xDEADBEEF#32]

theorem test_check_word_lsb_first : checkWordOf .lsbFirst identityBurst = 0x0340A70B#32 := by decide +kernel
theorem test_check_word_msb_first : checkWordOf .msbFirst identityBurst = 0xEEABC8C4#32 := by decide +kernel
theorem test_single_judged_good :
    judgeReception .lsbFirst ⟨singleWords ++ [0x367999D8#32], .endMarker, false⟩ =
      .good
        { tag := 7, kind := .singleBurst, repeatFlag := false, substFlag := false, mediaErrFlag := false, index := 0,
          frameNumber := 0x1234, payload := [0xDEADBEEF#32] } := by decide +kernel
theorem test_single_with_other_order_is_check_error :
    judgeReception .msbFirst ⟨singleWords ++ [0x367999D8#32], .endMarker, false⟩ = .checkError := by decide +kernel
theorem test_header_words :
    headerWords
      { tag := 7, kind := .singleBurst, repeatFlag := false, substFlag := false, mediaErrFlag := false, index := 0,
        frameNumber := 0x1234, payload := [0xDEADBEEF#32] } = [0x1D001000#32, 0x12340000#32] := by decide +kernel

/-! ## States to test on -/

/-- A request record with transaction tag 0. -/
def request (code : Nat) (ops : List Word) : List Word :=
  BitVec.ofNat 32 (65536 * code) :: BitVec.ofNat 32 ops.length :: ops

/-- The state with one request waiting. -/
def asking (p : List Word) (s : State) : State := { s with requestQueue := [p] }

/-- A media burst of stream 0 from IN0. -/
def mediaBurst (kind : BurstKind) (words index : Nat) : Burst :=
  { tag := 0, kind := kind, repeatFlag := false, substFlag := false, mediaErrFlag := false, index := index, frameNumber := 9,
    payload := List.replicate words 0x01020304#32 }

/-- After reset, with stream 0 in a state; its entry names IN0 and region base 0. -/
def streamIn (st : StreamState) (s : State) : State := modifyContext 0 (fun c => { c with state := st }) s

/-- The head of IN0's FIFO is a burst. -/
def arrived (b : Burst) (s : State) : State :=
  { s with ingress := modifyAt s.ingress 0 fun p => { p with fifo := [b] } }

/-- One entry of stream 0 in the write queue. -/
def oneWrite : WriteEntry :=
  { stream := 0, buffer := 0, fillTag := 0, target := 0, payload := [1#32], lastBurst := true, state := .writing }

/-- The reference unit in a state of FOLLOW mode, with P 1000, T 10, M 2, K 2. -/
def following (st : RefState) (c : Nat) (s : State) : State :=
  { s with reference :=
      { s.reference with
        mode := .follow, state := st, periodCounter := c,
        params := { period := 1000, tolerance := 10, lossCount := 2, regainCount := 2 } } }

/-- RST_N is low. -/
def heldLow : State := { State.reset with resetHeld := some .pin }

/-- An emission record of a FRAME in progress. -/
def frameActive (u : EmissionUnit) : EmissionUnit :=
  { u with record :=
      { u.record with
        status := .active, sourceKind := some .frame, buffer := some ⟨0, 0⟩, fillTag := some 0, baseBlock := some 0,
        lastWords := some 64, burstsTotal := 2 } }

/-- A memory access of slot 0's reader in progress. -/
def reading (owner : Owner) : State :=
  modifyEmission 0
    (fun u => { frameActive u with readInFlight := some { buffer := ⟨0, 0⟩, fillTag := 0, block := 0, owner := owner } })
    (modifyArbiter (fun a => { a with access := some (.egress 0) }) State.reset)

/-- A MemoryRead of two words from word address 1, in hand. -/
def readJob : MemoryJob := { tag := 0, code := 0x12, address := 1, count := 2, data := none }

/-- The executor waits for memory, the access in progress. -/
def managing (j : MemoryJob) : State :=
  { modifyArbiter (fun a => { a with access := some .mgmt }) State.reset with executor := .waitMemory j }

/-- A burst in transmission at OUT0. -/
def sendingFrom (from_ : Participant) (s : State) : State :=
  modifyEgress 0 (fun q => { q with sending := some (transmission from_ (mediaBurst .singleBurst 1 0) .lsbFirst) }) s

/-- A reply to a request of a code. -/
def replyOf (code : BitVec 8) : Reply := { tag := 0, code := code, status := .ok, reason := 0, results := [] }

/-- The generator running for stream 0. -/
def generating (s : State) : State :=
  { s with generator := { s.generator with state := .running, stream := some 0, frameStartDue := true } }

/-! ## Small steps -/

theorem test_reset_number_is_identity :
    identityWords State.reset = [0x0A71#32, 0x3216#32, 1#32, 65536#32, 0#32, 0#32, 0#32] := by decide +kernel
theorem test_read_identity_replies :
    (match exec .readIdentity (asking (request 1 []) State.reset) with
      | .next t => some (t.replyQueue.map fun r => r.results.length, t.requestQueue.length)
      | _ => none) = some ([7], 0) := by decide +kernel
theorem test_first_tick_after_reset :
    (match exec (.freePeriodExpiry [])
        { State.reset with reference := { State.reset.reference with periodCounter := 1000000 } } with
      | .next t => some (t.reference.tickNumber, t.reference.periodCounter)
      | _ => none) = some (1#32, 0) := by decide +kernel
/-- R26 in the worked example of 2.5: an edge at e = 250,000 sets the good run to 0. -/
theorem test_glitch_while_searching :
    (match exec (.refEdge [])
        { State.reset with reference :=
            { State.reset.reference with
              mode := .follow, state := .searching, edgeCounter := some 250000, goodRun := 1, periodCounter := 650000 } } with
      | .next t => some (t.reference.goodRun, t.reference.edgeCounter, t.reference.periodCounter, t.reference.tickNumber)
      | _ => none) = some (0, some 0, 650000, 0#32) := by decide +kernel
/-- R27 in the worked example of 2.5: the regaining edge at c = 400,000 makes no tick. -/
theorem test_regain_without_tick :
    (match exec (.refEdge [])
        { State.reset with reference :=
            { State.reset.reference with
              mode := .follow, state := .searching, edgeCounter := some 1000000, goodRun := 2, periodCounter := 400000 } } with
      | .next t => some (t.reference.state, t.reference.edgeCounter, t.reference.periodCounter, t.reference.tickNumber)
      | _ => none) = some (.tracking, none, 0, 0#32) := by decide +kernel
/-- R24 in the worked example of 2.5: the first window close of a TRACKING unit. -/
theorem test_window_close_coasts :
    (match exec (.windowClose []) (following .tracking 1010 State.reset) with
      | .next t => some (t.reference.state, t.reference.periodCounter, t.reference.missedRun, t.reference.tickNumber)
      | _ => none) = some (.coasting, 10, 1, 1#32) := by decide +kernel
theorem test_single_fills_and_seals :
    (match exec .dispatchBurst (arrived (mediaBurst .singleBurst 3 0) (streamIn .acquiring State.reset)) with
      | .next t => some ((bufferOf t ⟨0, 0⟩).state, (bufferOf t ⟨0, 0⟩).lastWords, t.writeQueue.length,
          t.contexts[(0 : Fin 32)].measuring)
      | _ => none) = some (.sealing, some 3, 1, true) := by decide +kernel
theorem test_write_completion_stores :
    (match exec .writeCompletion
        { modifyArbiter (fun a => { a with access := some .ingress }) State.reset with
          writeQueue := [{ oneWrite with payload := [0x01020304#32] }] } with
      | .next t => some (t.memory.cells, t.writeQueue.length)
      | _ => none) = some ([(0, 1), (1, 2), (2, 3), (3, 4)], 0) := by decide +kernel
theorem test_word_order_swapped : orderedPayload .swapped [0x01020304#32] = [0x04030201#32] := by decide +kernel
theorem test_pn_first_word : (pnWord (BitVec.allOnes 23)).1 = 0x00003E00#32 := by decide +kernel
theorem test_ramp_second_block :
    (substituteWords { (frameActive State.resetEmission).record with sourceKind := some .ramp } 1).head? = some 64#32 := by
  decide +kernel
theorem test_write_ports_without_management_port_refused :
    (match exec .writePorts (asking (request 4 (List.replicate 21 0)) State.reset) with
      | .next t => some (t.replyQueue.map fun r => (r.status, r.reason))
      | _ => none) = some [(.badArgument, 3)] := by decide +kernel

/-! ## States that meet the hypotheses of the statements -/

theorem test_witness_front_command : ({ State.reset with pending := [.readIdentity] } : State).pending = [.readIdentity] := rfl

/-- TBCLK stands. -/
def clockless (s : State) : State := { s with timebaseRuns := false }

/-- What comes from outside in the coming timebase units. -/
def withTape (us : List Upset) (s : State) : State := { s with upsets := us }

theorem test_witness_clock :
    State.reset.timebaseRuns = true ∧ (clockless State.reset).timebaseRuns = false ∧
    (clockless State.reset).resetHeld = none ∧ dueEvent (clockless State.reset) = none ∧
    dueEvent (withTape [.clockStops] State.reset) = none ∧ (withTape [.clockStops] State.reset).upsets = .clockStops :: [] ∧
    dueEvent (withTape [.clockRuns] (clockless State.reset)) = none ∧
    (withTape [.clockRuns] (clockless State.reset)).upsets = .clockRuns :: [] := by decide +kernel

theorem test_clock_stands_then_runs :
    (timeUnit (clockless State.reset)).reference.periodCounter = 0 ∧
    (timeUnit (withTape [.clockRuns] (clockless State.reset))).timebaseRuns = true ∧
    (timeUnit State.reset).reference.periodCounter = 1 := by decide +kernel

theorem test_witness_empty_queue_step :
    (heldLow.pending = [] ∧ heldLow.resetHeld.isSome = true) ∧
    (asking (request 1 []) State.reset).pending = [] ∧ (asking (request 1 []) State.reset).resetHeld = none ∧
    dueEvent (asking (request 1 []) State.reset) = some .readIdentity ∧
    State.reset.resetHeld = none ∧ dueEvent State.reset = none ∧ State.reset.upsets = [] := by
  decide +kernel

/-- The period counter of the reference unit, in FREE mode. -/
def atCount (c : Nat) (s : State) : State := { s with reference := { s.reference with periodCounter := c } }

theorem test_witness_due_events :
    ((atCount 1000000 State.reset).reference.mode = .free ∧ (atCount 1000000 State.reset).timebaseRuns = true ∧
      (atCount 1000000 State.reset).reference.params.period ≤ (atCount 1000000 State.reset).reference.periodCounter ∧
      dueEvent (atCount 1000000 State.reset) = some (.freePeriodExpiry []) ∧ dueEvent (atCount 999999 State.reset) = none) ∧
    (dueByTime (asking (request 1 []) State.reset) = [] ∧ (asking (request 1 []) State.reset).executor = .idle ∧
      (asking (request 1 []) State.reset).requestQueue = [request 1 []]) := by decide +kernel

theorem test_witness_tape :
    dueEvent (withTape [.streamEntry 31 State.reset.entries[(0 : Fin 32)].fields] State.reset) = none ∧
    dueEvent (withTape [.activeRoute 15 State.resetRouteEntry.fields] State.reset) = none ∧
    dueEvent (withTape [.pendingRoute 0 State.resetRouteEntry.fields] State.reset) = none ∧
    dueEvent (withTape [.memoryBit 5 71] State.reset) = none ∧ dueEvent (withTape [.quiet] State.reset) = none ∧
    State.reset.memory.badBits.Pairwise (· < ·) := by decide +kernel

theorem test_memory_bit_turned_over_twice :
    (timeUnit (withTape [.memoryBit 5 71] State.reset)).memory.badBits = [431] ∧
    (timeUnit (timeUnit (withTape [.memoryBit 5 71, .memoryBit 5 71] State.reset))).memory.badBits = [] := by decide +kernel

theorem test_witness_command_frames : exec .refreshCompletion State.reset = .next State.reset := by rfl

/-- A write in progress, by the write queue. -/
def ingressWriting : State :=
  { modifyArbiter (fun a => { a with access := some .ingress }) State.reset with writeQueue := [oneWrite] }

theorem test_witness_abandoned :
    (ingressWriting.arbiter.access = some .ingress ∧ ingressWriting.writeQueue = oneWrite :: [] ∧
      abandonedWrite ingressWriting = some (0, [1#32]) ∧ ingressWriting.memory.cells.wf = true) ∧
    ((managing { readJob with data := some [1#32, 2#32] }).arbiter.access = some .mgmt ∧
      abandonedWrite (managing { readJob with data := some [1#32, 2#32] }) = some (1, [1#32, 2#32])) ∧
    ((managing readJob).executor = .waitMemory readJob ∧ readJob.data = none) ∧ State.reset.arbiter.access = none ∧
    (reading .activeEmission).arbiter.access = some (.egress 0) := by decide +kernel

theorem test_witness_resets :
    (Instr.powerOnReset 1 [(0, 1), (67108863, 2)] [0, 603979775]).wellFormed = true ∧
    State.reset.resetHeld = none ∧ abandonedWrite State.reset = none ∧ heldLow.resetHeld.isSome = true ∧
    (∀ memsz cells bad, Instr.readIdentity ≠ .powerOnReset memsz cells bad) ∧
    (∀ memsz, Instr.readIdentity ≠ .pinReset memsz) := by
  refine ⟨by decide +kernel, by decide +kernel, by decide +kernel, by decide +kernel, ?_, ?_⟩
  · intro _ _ _ h; cases h
  · intro _ h; cases h

/-- OUT0 sends the reply to ResetPart. -/
def resetReplySent : State := { sendingFrom .reply State.reset with replyQueue := [replyOf 0x02] }

theorem test_witness_management_reset :
    resetReplySent.resetHeld = none ∧
    resetReplySent.egress[(0 : Fin 4)].sending = some (transmission .reply (mediaBurst .singleBurst 1 0) .lsbFirst) ∧
    resetReplySent.replyQueue = [replyOf 0x02] ∧ (replyOf 0x02).isResetPart = true ∧ abandonedWrite resetReplySent = none := by
  decide +kernel

/-- OUT0, the reply port, is off and ResetPart's reply heads the queue. -/
def resetReplyDiscarded : State :=
  modifyEgress 0 (fun q => { q with enabled := false }) { State.reset with replyQueue := [replyOf 0x02] }

theorem test_witness_discarded_reset_reply :
    resetReplyDiscarded.resetHeld = none ∧ resetReplyDiscarded.egress[(0 : Fin 4)].sending = none ∧
    resetReplyDiscarded.egress[(0 : Fin 4)].enabled = false ∧ nextParticipant resetReplyDiscarded 0 = some 16 ∧
    resetReplyDiscarded.replyQueue = [replyOf 0x02] := by decide +kernel

theorem test_witness_increment :
    (0xFFFE#16).toNat + 1 ≤ 2 ^ 16 - 1 ∧ 2 ^ 16 - 1 < (0xFFFF#16).toNat + 1 := by decide +kernel

theorem test_witness_event : (0 : Fin 16) ≠ latchNumber .test := by decide +kernel

/-- A fault record with flags. -/
def record (minor major double : Bool) : State :=
  { State.reset with faults := { State.reset.faults with minorHeld := minor, majorHeld := major, double := double } }

theorem test_witness_fault_record :
    ((record false false false).faults.minorHeld = false ∧ (record false false false).faults.majorHeld = false ∧
      (record false false false).faults.double = false) ∧
    (record true false false).faults.minorHeld = true ∧
    ((record false true false).faults.majorHeld = true ∧ (record false true false).faults.double = false) ∧
    (record false true true).faults.double = true := by decide +kernel

theorem test_witness_burst_checks :
    ([0#32] : List Word).length ≠ ((0xFD802000#32).extractLsb' 12 7).toNat + 2 ∧
    ([0x5A010000#32, 0#32] : List Word).length = ((0xFD802000#32).extractLsb' 12 7).toNat ∧
    0#32 ≠ checkWordOf .lsbFirst [0xFD802000#32, 0#32, 0x5A010000#32, 0#32] ∧
    headerBad 0xFD802000#32 1#32 = true ∧ headerBad 0xFD802000#32 0#32 = false ∧ (31 < 32) := by decide +kernel

/-- A reception whose judgement is good at an LSB_FIRST port. -/
def goodReception : Reception := ⟨singleWords ++ [0x367999D8#32], .endMarker, false⟩

theorem test_witness_ingress_burst :
    State.reset.resetHeld = none ∧ State.reset.ingress[(1 : Fin 4)].enabled = true ∧ goodReception.ignored = false ∧
    judgeReception .lsbFirst ⟨singleWords ++ [0#32], .endMarker, false⟩ = .checkError ∧
    judgeReception .lsbFirst ⟨[], .startMarker, false⟩ = .framingError ∧
    judgeReception .lsbFirst ⟨[0#32, 0#32, checkWordOf .lsbFirst [0#32, 0#32]], .endMarker, false⟩ = .headerError ∧
    judgeReception .lsbFirst goodReception ≠ .headerError ∧ judgeReception .lsbFirst goodReception ≠ .checkError ∧
    judgeReception .lsbFirst goodReception ≠ .framingError ∧
    State.reset.ingress[(1 : Fin 4)].fifo.length < 8 ∧
    8 ≤ (modifyAt State.reset.ingress 1 fun p =>
      { p with fifo := List.replicate 8 (mediaBurst .singleBurst 1 0) })[(1 : Fin 4)].fifo.length := by decide +kernel

/-- A request burst at the head of a port's FIFO. -/
def requestAt (p : Fin 4) (s : State) : State :=
  { s with ingress := modifyAt s.ingress p fun q => { q with fifo := [mediaBurst .requestBurst 2 0] } }

theorem test_witness_request_burst :
    DispatchesNext (requestAt 0 State.reset) 0 (mediaBurst .requestBurst 2 0) ∧
    (requestAt 0 State.reset).ingress[(0 : Fin 4)].permission = true ∧ State.reset.requestQueue.length < 4 ∧
    DispatchesNext (requestAt 3 State.reset) 3 (mediaBurst .requestBurst 2 0) ∧
    (requestAt 3 State.reset).ingress[(3 : Fin 4)].permission = false ∧
    DispatchesNext { requestAt 0 State.reset with requestQueue := List.replicate 4 [] } 0 (mediaBurst .requestBurst 2 0) ∧
    (mediaBurst .requestBurst 2 0).kind = .requestBurst ∧
    (nextPort (requestAt 3 State.reset) = some 3) ∧
    ({ State.reset with dispatcher := { pointer := 0, waiting := some 0 } } : State).dispatcher.waiting.isSome = true := by
  unfold DispatchesNext; decide +kernel

/-- A state whose next burst is a START of stream 0 at IN0. -/
def mediaNext (st : StreamState) : State := arrived (mediaBurst .startBurst 64 0) (streamIn st State.reset)

/-- The write queue is full. -/
def queueFull (s : State) : State := { s with writeQueue := List.replicate 16 oneWrite }

/-- The entry of stream 0 with bad parity. -/
def parityBad (s : State) : State := { s with entries := modifyAt s.entries 0 fun e => { e with parityGood := false } }

/-- The entry of stream 0 names the generator. -/
def fromGenerator (s : State) : State :=
  { s with entries := modifyAt s.entries 0 fun e => { e with fields := { e.fields with source := .generator } } }

/-- The part in SAFE. -/
def inSafe (s : State) : State := { s with faults := { s.faults with mode := .safe } }

theorem test_witness_media_burst :
    (DispatchesNext (mediaNext .locked) 0 (mediaBurst .startBurst 64 0) ∧ (mediaBurst .startBurst 64 0).kind.isMedia = true ∧
      (mediaBurst .startBurst 64 0).tag.toNat = (0 : Fin 32).val ∧ (mediaNext .locked).faults.mode = .normal ∧
      inService (mediaNext .locked).contexts[(0 : Fin 32)].state = true ∧
      (mediaNext .locked).entries[(0 : Fin 32)].parityGood = true ∧
      (mediaNext .locked).entries[(0 : Fin 32)].fields.source = .ingress 0 ∧ (mediaNext .locked).writeQueue.length < 16) ∧
    (DispatchesNext (queueFull (mediaNext .lost)) 0 (mediaBurst .startBurst 64 0) ∧
      16 ≤ (queueFull (mediaNext .lost)).writeQueue.length) ∧
    (DispatchesNext (mediaNext .closing) 0 (mediaBurst .startBurst 64 0) ∧
      inService (mediaNext .closing).contexts[(0 : Fin 32)].state = false) ∧
    (DispatchesNext (parityBad (mediaNext .acquiring)) 0 (mediaBurst .startBurst 64 0) ∧
      (parityBad (mediaNext .acquiring)).entries[(0 : Fin 32)].parityGood = false) ∧
    (DispatchesNext (fromGenerator (mediaNext .locked)) 0 (mediaBurst .startBurst 64 0) ∧
      (fromGenerator (mediaNext .locked)).entries[(0 : Fin 32)].fields.source ≠ .ingress 0) ∧
    (DispatchesNext (inSafe (mediaNext .locked)) 0 (mediaBurst .startBurst 64 0) ∧
      (inSafe (mediaNext .locked)).faults.mode = .safe) := by
  unfold DispatchesNext; decide +kernel

/-- The dispatcher waits with the head burst of IN0. -/
def waiting (s : State) : State := { s with dispatcher := { s.dispatcher with waiting := some 0 } }

theorem test_witness_waiting_burst :
    (waiting (mediaNext .locked)).resetHeld = none ∧ (waiting (mediaNext .locked)).dispatcher.waiting = some 0 ∧
    headBurst (waiting (mediaNext .locked)) 0 = some (mediaBurst .startBurst 64 0) ∧
    (waiting (mediaNext .locked)).writeQueue.length < 16 ∧
    inService (waiting (mediaNext .locked)).contexts[(0 : Fin 32)].state = true ∧
    inService (waiting (mediaNext .off)).contexts[(0 : Fin 32)].state = false ∧
    (waiting (inSafe (mediaNext .locked))).faults.mode = .safe ∧
    (waiting (parityBad (mediaNext .locked))).entries[(0 : Fin 32)].parityGood = false ∧
    (waiting (fromGenerator (mediaNext .locked))).entries[(0 : Fin 32)].fields.source ≠ .ingress 0 ∧
    16 ≤ (waiting (queueFull (mediaNext .locked))).writeQueue.length := by decide +kernel

/-- Stream 0 with a window of 90 to 110, lock count 2 and cadence limit 2, and its context changed. -/
def windowed (f : StreamContext → StreamContext) : State :=
  modifyContext 0 f
    { State.reset with entries := modifyAt State.reset.entries 0 fun e =>
        { e with fields :=
            { e.fields with windowMin := 90, windowMax := 110, lockCount := 2, cadenceLimit := 2, activityWindow := 4,
                            activityThreshold := 3, gapCheck := true } } }

theorem test_witness_frame_start :
    (windowed id).contexts[(0 : Fin 32)].measuring = false ∧
    (windowed fun c => { c with measuring := true }).contexts[(0 : Fin 32)].measuring = true ∧
    (inWindow (windowed id).entries[(0 : Fin 32)].fields 90 = true ∧
      inWindow (windowed id).entries[(0 : Fin 32)].fields 110 = true ∧
      inWindow (windowed id).entries[(0 : Fin 32)].fields 111 = false) ∧
    ((windowed fun c => { c with state := .acquiring }).contexts[(0 : Fin 32)].state = .acquiring ∧
      0 + 1 < (windowed id).entries[(0 : Fin 32)].fields.lockCount ∧
      (windowed id).entries[(0 : Fin 32)].fields.lockCount ≤ 1 + 1) ∧
    ((windowed fun c => { c with state := .locked }).contexts[(0 : Fin 32)].state = .locked ∧
      0 + 1 < (windowed id).entries[(0 : Fin 32)].fields.cadenceLimit ∧
      (windowed id).entries[(0 : Fin 32)].fields.cadenceLimit ≤ 1 + 1) := by decide +kernel

/-- The buffers of stream 0 changed, with a ring length. -/
def ringWith (length : Nat) (f : Buffer → Buffer) : State :=
  modifyRing 0 f
    { State.reset with entries := modifyAt State.reset.entries 0 fun e => { e with fields := { e.fields with ringLength := length } } }

/-- Buffer 1 of stream 0 is FILLING and expects burst 1. -/
def fillingOne : State :=
  modifyBuffer ⟨0, 1⟩ (fun b => { b with state := .filling, nextIndex := some 1 })
    { State.reset with entries := modifyAt State.reset.entries 0 fun e => { e with fields := { e.fields with bufferSize := 4 } } }

theorem test_witness_frame_start_in_ring :
    beginsFrame (mediaBurst .startBurst 64 0).kind = true ∧ fillingBuffer State.reset 0 = none ∧
    frameStartFault State.reset.entries[(0 : Fin 32)].fields (mediaBurst .startBurst 64 1) = some 0 ∧
    frameStartFault State.reset.entries[(0 : Fin 32)].fields (mediaBurst .startBurst 63 0) = some 1 ∧
    frameStartFault State.reset.entries[(0 : Fin 32)].fields (mediaBurst .startBurst 64 0) = none ∧
    chooseTarget State.reset 0 = some 0 ∧ chooseTarget (ringWith 2 fun b => { b with state := .sealing }) 0 = none ∧
    fillingBuffer (ringWith 2 fun b => { b with state := .sealing }) 0 = none ∧ fillingBuffer fillingOne 0 = some 1 := by
  decide +kernel

theorem test_witness_one_filling : OneFilling fillingOne := by
  unfold OneFilling; decide +kernel

theorem test_witness_target_choice :
    ((0 : Fin 8).val < State.reset.entries[(0 : Fin 32)].fields.ringLength ∧
      State.reset.rings[(0 : Fin 32)][(0 : Fin 8)].state = .empty ∧ ∀ j : Fin 8, ¬j < 0) ∧
    (∀ j : Fin 8, (ringWith 2 fun b => { b with state := .shown, sequence := some 1 }).rings[(0 : Fin 32)][j].state ≠ .empty) ∧
    chooseTarget (ringWith 2 fun b => { b with state := .shown, sequence := some 1 }) 0 = some 0 := by decide +kernel

theorem test_witness_continuing_burst :
    (mediaBurst .bodyBurst 64 1).kind = .bodyBurst ∧ (mediaBurst .endBurst 5 1).kind = .endBurst ∧
    fillingBuffer State.reset 0 = none ∧ fillingBuffer fillingOne 0 = some 1 ∧
    continuationFault fillingOne.entries[(0 : Fin 32)].fields fillingOne.rings[(0 : Fin 32)][(1 : Fin 8)]
      (mediaBurst .bodyBurst 64 2) = some 0 ∧
    continuationFault fillingOne.entries[(0 : Fin 32)].fields fillingOne.rings[(0 : Fin 32)][(1 : Fin 8)]
      (mediaBurst .bodyBurst 64 1) = none ∧
    continuationFault fillingOne.entries[(0 : Fin 32)].fields fillingOne.rings[(0 : Fin 32)][(1 : Fin 8)]
      (mediaBurst .endBurst 5 1) = none := by decide +kernel

/-- At the entry to SAFE: a burst waits with the dispatcher and the generator runs for stream 0. -/
def enteringSafe : State := { waiting (mediaNext .locked) with faults := (record false true false).faults }

theorem test_witness_entry_to_safe :
    enteringSafe.faults.majorHeld = true ∧ enteringSafe.faults.double = false ∧ enteringSafe.dispatcher.waiting = some 0 ∧
    (generating enteringSafe).generator.state = .running ∧ (generating enteringSafe).generator.stream = some 0 ∧
    enteringSafe.generator.state ≠ .running ∧ (record false true false).dispatcher.waiting = none := by decide +kernel

theorem test_witness_stream_time :
    (judgementDue (windowed fun c => { c with state := .locked, windowTicks := 4, windowFrames := 2, activityDue := true }) 0 = true ∧
      2 < (windowed id).entries[(0 : Fin 32)].fields.activityThreshold ∧
      (windowed id).entries[(0 : Fin 32)].fields.activityThreshold ≤ 3) ∧
    (windowed fun c => { c with overflowDue := true }).contexts[(0 : Fin 32)].overflowDue = true ∧
    (windowed id).contexts[(0 : Fin 32)].overflowDue = false ∧ (windowed id).contexts[(0 : Fin 32)].state ≠ .locked := by
  decide +kernel

theorem test_witness_entry_to_closing :
    (generating (streamIn .locked State.reset)).generator.state = .running ∧
    (generating (streamIn .locked State.reset)).generator.stream = some 0 := by decide +kernel

/-- Stream 0 with a frame FILLING, one SEALING, the generator and the dispatcher busy with it. -/
def busyStream : State :=
  modifyBuffer ⟨0, 0⟩ (fun b => { b with state := .filling })
    (modifyBuffer ⟨0, 1⟩ (fun b => { b with state := .sealing }) (generating (waiting (mediaNext .locked))))

theorem test_witness_closing_reported :
    busyStream.dispatcher.waiting = some 0 ∧ headBurst busyStream 0 = some (mediaBurst .startBurst 64 0) ∧
    (mediaBurst .startBurst 64 0).tag.toNat = (0 : Fin 32).val ∧ (mediaBurst .startBurst 64 0).tag.toNat ≠ (1 : Fin 32).val ∧
    busyStream.rings[(0 : Fin 32)][(0 : Fin 8)].state = .filling ∧ busyStream.generator.stream = some 0 ∧
    State.reset.dispatcher.waiting = none := by decide +kernel

theorem test_closing_reports :
    (enterClosing 0 busyStream).live.streams[(0 : Fin 32)].damaged = 2 ∧
    (enterClosing 0 busyStream).latches[(4 : Fin 16)].cause = 4 ∧ (enterClosing 0 busyStream).latches[(1 : Fin 16)].cause = 1 ∧
    (enterClosing 0 busyStream).latches[(3 : Fin 16)].pending = true ∧
    (enterClosing 0 busyStream).dispatcher = { pointer := 1, waiting := none } ∧
    (enterClosing 0 busyStream).contexts[(0 : Fin 32)].state = .off := by decide +kernel

/-- A CLOSING stream 0 with a number of holds on its buffer 0. -/
def closingHeld (holds : Nat) : State :=
  modifyBuffer ⟨0, 0⟩ (fun b => { b with state := .shown, holdCount := holds }) (streamIn .closing State.reset)

theorem test_witness_let_go :
    (closingHeld 1).contexts[(0 : Fin 32)].state = .closing ∧ (bufferOf (closingHeld 1) ⟨0, 0⟩).holdCount ≤ 1 ∧
    1 < (bufferOf (closingHeld 2) ⟨0, 0⟩).holdCount ∧
    (letGo ⟨0, 0⟩ (closingHeld 1)).contexts[(0 : Fin 32)].state = .off ∧
    (bufferOf (letGo ⟨0, 0⟩ (closingHeld 1)) ⟨0, 0⟩).state = .empty ∧
    (letGo ⟨0, 0⟩ (closingHeld 2)).contexts[(0 : Fin 32)].state = .closing ∧
    (bufferOf (letGo ⟨0, 0⟩ (closingHeld 2)) ⟨0, 0⟩).state = .shown := by decide +kernel

/-- Slot 5's reader claims, with a fill. -/
def readerOf (fill : Nat) : State :=
  modifyEmission 5
    (fun u =>
      { frameActive u with
        fifo := List.replicate fill (BlockEntry.mk 0 [] false .activeEmission .held) })
    State.reset

theorem test_witness_claims :
    State.reset.arbiter.access = none ∧ (managing readJob).executor = .waitMemory readJob ∧
    urgentClaim (readerOf 1) .egress = some (.egress 5) ∧ urgentClaim (readerOf 2) .egress = none ∧
    normalClaim (readerOf 4) .egress = some (.egress 5) ∧ normalClaim (readerOf 5) .egress = none ∧
    (∀ j : Nat, j < 1 → State.reset.executor = .idle) := by decide +kernel

theorem test_witness_memory_grant :
    (chooseClaim State.reset = none ∧ State.reset.resetHeld = none ∧ State.reset.arbiter.access = none) ∧
    (managing readJob).arbiter.access.isSome = true ∧
    chooseClaim (modifyArbiter (fun a => { a with refreshOwed := 1 }) State.reset) = some .refresh ∧
    chooseClaim { State.reset with executor := .waitMemory readJob } = some .mgmt ∧
    chooseClaim { State.reset with writeQueue := [{ oneWrite with state := .queued }] } = some .ingress ∧
    (chooseClaim (readerOf 4) = some (.egress 5) ∧ (readerOf 4).emissions[(5 : Fin 16)].record.buffer = some ⟨0, 0⟩ ∧
      (readerOf 4).emissions[(5 : Fin 16)].record.fillTag = some 0 ∧
      (readerOf 4).emissions[(5 : Fin 16)].record.baseBlock = some 0) := by decide +kernel

theorem test_witness_errors :
    badBitsOf [71, 72] 2 = [] ∧ badBitsOf [71, 72] 0 = [71] ∧ badBitsOf [71, 72] 1 = [0] ∧ badBitsOf [72, 143] 1 = [0, 71] := by
  decide +kernel

theorem test_witness_stored_words :
    Memory.wf [] = true ∧ ([1#32, 2#32] : List Word) ≠ [] ∧ 1 % 2 = 1 ∧ (1 + [1#32, 2#32].length) % 2 = 1 ∧ 7 / 8 < 16 / 2 ∧
    (0 + [1#32, 2#32].length - 1) / 2 < 8 / 8 := by decide +kernel

/-- The write of stream 0 in progress at a target block. -/
def writing (target : Nat) (s : State) : State :=
  { modifyArbiter (fun a => { a with access := some .ingress }) s with writeQueue := [{ oneWrite with target := target }] }

theorem test_witness_write_completion :
    (writing 65535 State.reset).resetHeld = none ∧ (writing 65535 State.reset).arbiter.access = some .ingress ∧
    (writing 65535 State.reset).writeQueue = [{ oneWrite with target := 65535 }] ∧
    65535 < (writing 65535 State.reset).memory.blocks ∧ (writing 65536 State.reset).memory.blocks ≤ 65536 ∧
    (oneWrite.lastBurst = true ∧
      (writing 0 (modifyBuffer ⟨0, 0⟩ (fun b => { b with state := .sealing }) State.reset)).rings[(0 : Fin 32)][(0 : Fin 8)].state
        = .sealing ∧
      (writing 0 (modifyBuffer ⟨0, 0⟩ (fun b => { b with state := .sealing }) State.reset)).rings[(0 : Fin 32)][(0 : Fin 8)].fillTag
        = oneWrite.fillTag) ∧
    State.reset.arbiter.access ≠ some .ingress ∧ (writing 0 State.reset).contexts[(0 : Fin 32)].state ≠ .closing := by
  decide +kernel

theorem test_witness_slot_read :
    (reading .activeEmission).resetHeld = none ∧ (reading .activeEmission).arbiter.access = some (.egress 0) ∧
    (reading .activeEmission).emissions[(0 : Fin 16)].readInFlight =
      some { buffer := ⟨0, 0⟩, fillTag := 0, block := 0, owner := .activeEmission } ∧
    0 < (reading .activeEmission).memory.blocks ∧ State.reset.memory.blocks ≤ 65536 ∧
    (reading .cutEmission).emissions[(0 : Fin 16)].readInFlight =
      some { buffer := ⟨0, 0⟩, fillTag := 0, block := 0, owner := .cutEmission } ∧
    ({ cells := [], badBits := [3, 5], blocks := 65536 } : FrameMemory).worst 0 32 = .uncorrectable ∧
    (modifyBuffer ⟨0, 0⟩ (fun b => { b with state := .shown }) State.reset).rings[(0 : Fin 32)][(0 : Fin 8)].complete = true ∧
    State.reset.memory.worst 0 32 ≠ .uncorrectable := by decide +kernel

theorem test_witness_management_access :
    (managing readJob).resetHeld = none ∧ (managing readJob).arbiter.access = some .mgmt ∧
    (managing readJob).executor = .waitMemory readJob ∧ readJob.address + readJob.count ≤ 64 * State.reset.memory.blocks ∧
    64 * State.reset.memory.blocks < { readJob with address := 4194303 }.address + readJob.count ∧
    readJob.data = none ∧ State.reset.memory.worst (readJob.address / 2) (memoryWordSpan readJob.address readJob.count) ≠ .uncorrectable ∧
    ({ cells := [], badBits := [3, 5], blocks := 65536 } : FrameMemory).worst (readJob.address / 2)
      (memoryWordSpan readJob.address readJob.count) = .uncorrectable ∧
    { readJob with data := some [1#32, 2#32] }.data = some [1#32, 2#32] := by decide +kernel

theorem test_witness_refresh :
    State.reset.arbiter.refreshTimer < State.reset.arbiter.refreshInterval ∧ 780 ≤ 780 ∧ (7 < 8 ∧ 8 ≤ 8) ∧
    (modifyArbiter (fun a => { a with access := some .refresh, refreshTimer := 780, refreshOwed := 8 }) State.reset).arbiter.access
      = some .refresh ∧ State.reset.arbiter.access ≠ some .refresh := by decide +kernel

theorem test_witness_tick :
    ((windowed fun c => { c with state := .locked, windowTicks := 3 }).contexts[(0 : Fin 32)].state = .locked ∧
      (generating State.reset).generator.state = .running) ∧
    (TickWork.count 0 ∈ [TickWork.generator, .count 0]) ∧ (∀ n : Fin 32, judgementDue State.reset n = false) ∧ (∀ k : Fin 16, State.reset.slots[k].holdExpiryDue = false) := by
  decide +kernel

/-- R47: a frame start of the generator that the command names before the stream's count comes before it. -/
theorem test_tick_order : (tickWorks [.generator, .count 0]).idxOf .generator < (tickWorks [.generator, .count 0]).idxOf (.count 0) := by
  decide +kernel

theorem test_witness_period_ticks :
    State.reset.resetHeld = none ∧ State.reset.timebaseRuns = true ∧ (clockless State.reset).timebaseRuns = false ∧ State.reset.reference.mode = .free ∧
    State.reset.reference.params.period ≤ { State.reset.reference with periodCounter := 1000000 }.periodCounter ∧
    State.reset.reference.periodCounter < State.reset.reference.params.period ∧
    ((following .searching 1000 State.reset).reference.state = .searching ∧
      (following .searching 1000 State.reset).reference.params.period ≤ 1000) ∧
    State.reset.reference.state ≠ .searching ∧ State.reset.reference.pendingParams = none := by decide +kernel

theorem test_witness_edges :
    State.reset.reference.state = .free ∧ (following .tracking 989 State.reset).timebaseRuns = true ∧
    (following .searching 499 State.reset).timebaseRuns = true ∧
    ((following .tracking 989 State.reset).reference.state = .tracking ∧ 989 + 10 < 1000) ∧
    ((following .coasting 990 State.reset).reference.state = .coasting ∧ 1000 ≤ 990 + 10 ∧ 990 ≤ 1000 + 10 ∧ 1010 ≤ 1000 + 10) ∧
    ((following .searching 499 State.reset).reference.state = .searching ∧
      (following .searching 499 State.reset).reference.edgeCounter = none ∧ 2 * 499 < 1000 ∧ 1000 ≤ 2 * 500) ∧
    (1011 > 1000 + 10 ∧ 989 + 10 < 1000 ∧ 0 + 1 < 2 ∧ 2 ≤ 1 + 1) := by decide +kernel

theorem test_witness_window_close :
    ((following .tracking 1010 State.reset).reference.state = .tracking ∧
      (following .tracking 1010 State.reset).timebaseRuns = true ∧
      (following .tracking 1010 State.reset).reference.params.period +
        (following .tracking 1010 State.reset).reference.params.tolerance ≤
          (following .tracking 1010 State.reset).reference.periodCounter ∧
      (following .tracking 1010 State.reset).reference.missedRun + 1 <
        (following .tracking 1010 State.reset).reference.params.lossCount) ∧
    ((following .coasting 1010 State.reset).reference.state = .coasting ∧ 2 ≤ 1 + 1) ∧
    (following .tracking 1009 State.reset).reference.periodCounter < 1000 + 10 := by decide +kernel

/-- A slot context changed. -/
def slotWith (f : SlotContext → SlotContext) : State := modifySlot 0 f State.reset

/-- Slot 0's active route changed. -/
def routed (f : RouteFields → RouteFields) (s : State) : State :=
  modifyRoute 0 (fun r => { r with active := { r.active with fields := f r.active.fields } }) s

theorem test_witness_substitute :
    (slotWith fun c => { c with holdExpiryDue := true }).slots[(0 : Fin 16)].holdExpiryDue = true ∧
    State.reset.slots[(0 : Fin 16)].holdExpiryDue = false ∧
    (slotWith fun c => { c with state := .subst }).slots[(0 : Fin 16)].state = .subst ∧
    State.reset.slots[(0 : Fin 16)].state ≠ .subst ∧
    (routed (fun f => { f with substKind := .blank }) State.reset).routes[(0 : Fin 16)].active.fields.substKind = .blank ∧
    State.reset.routes[(0 : Fin 16)].active.fields.substKind ≠ .blank ∧ SubstCause.safe ≠ .table := by decide +kernel

/-- Buffer 0 of stream 0 complete with sequence 5 and stamp 0, at tick 3, the stream in a state, slot 0 routed to it. -/
def showing (st : StreamState) (marked : Bool) (f : SlotContext → SlotContext) : State :=
  modifySlot 0 f
    (routed (fun r => { r with enabled := true })
      (modifyBuffer ⟨0, 0⟩
        (fun b => { b with state := .shown, sequence := some 5, stamp := some 0, mediaError := marked, burstCount := some 1 })
        (streamIn st { State.reset with reference := { State.reset.reference with tickNumber := 3 } })))

/-- The slot's current buffer is buffer 0 of stream 0. -/
def current (c : SlotContext) : SlotContext := { c with current := some { buffer := ⟨0, 0⟩, sequence := 5 } }

theorem test_witness_substitute_begun :
    (routed (fun f => { f with substKind := .ramp }) State.reset).routes[(0 : Fin 16)].active.fields.substKind = .ramp ∧
    State.reset.routes[(0 : Fin 16)].active.fields.substKind = .fill ∧ SubstCause.noFrame ≠ .table ∧
    (showing .locked false current).slots[(0 : Fin 16)].current = some { buffer := ⟨0, 0⟩, sequence := 5 } ∧
    (showing .locked false current).contexts[(0 : Fin 32)].state ≠ .closing := by decide +kernel

/-- An ACTIVE RAMP emission of ten blocks, none placed yet. -/
def ramping : EmissionUnit :=
  { frameActive State.reset.emissions[(0 : Fin 16)] with
    record :=
      { State.reset.emissions[(0 : Fin 16)].record with status := .active, sourceKind := some .ramp, burstsTotal := 10 } }

theorem test_ramp_fills_fifo :
    (refill ramping).fifo.length = 8 ∧ (refill ramping).record.blocksRequested = 8 ∧
    ((refill ramping).fifo.getLast?.map fun e => e.words.getLast?) = some (some 511#32) ∧ refill (refill ramping) = refill ramping := by
  decide +kernel

theorem test_witness_choice :
    (State.reset.routes[(0 : Fin 16)].active.fields.enabled = false ∧
      (showing .locked false id).routes[(0 : Fin 16)].active.fields.enabled = true ∧
      (showing .locked false id).faults.mode = .normal ∧ (inSafe (showing .locked false id)).faults.mode = .safe ∧
      (showing .off false id).contexts[(0 : Fin 32)].state = .off) ∧
    (newestEligible (showing .locked false id) 0 2 = some 0 ∧ newestEligible (showing .locked false id) 0 3 = none ∧
      takesNew (showing .locked false id).slots[(0 : Fin 16)].current 0 5 = true ∧
      takesNew (showing .locked false current).slots[(0 : Fin 16)].current 0 5 = false) ∧
    ((bufferOf (showing .locked true current) ⟨0, 0⟩).mediaError = true ∧
      (bufferOf (showing .locked false current) ⟨0, 0⟩).mediaError = false ∧
      (showing .locked true id).slots[(0 : Fin 16)].current = none ∧ newestEligible (showing .locked true id) 0 0 = none) ∧
    ((showing .lost false current).contexts[(0 : Fin 32)].state = .lost ∧
      (showing .lost false current).slots[(0 : Fin 16)].current = some { buffer := ⟨0, 0⟩, sequence := 5 } ∧
      (showing .lost false current).slots[(0 : Fin 16)].state ≠ .holding ∧
      (showing .lost false current).routes[(0 : Fin 16)].active.fields.holdLimit = 0 ∧
      0 < (routed (fun r => { r with holdLimit := 1 }) (showing .lost false current)).routes[(0 : Fin 16)].active.fields.holdLimit ∧
      (showing .lost false fun c => { current c with state := .holding, holdTimer := 1 }).slots[(0 : Fin 16)].state = .holding ∧
      0 < (showing .lost false fun c => { current c with state := .holding, holdTimer := 1 }).slots[(0 : Fin 16)].holdTimer ∧
      (showing .lost false fun c => { current c with state := .holding }).slots[(0 : Fin 16)].holdTimer = 0) := by
  decide +kernel

theorem test_witness_frames_shown :
    eligible 3 2 (bufferOf (showing .locked false id) ⟨0, 0⟩) = true ∧
    eligible 3 3 (bufferOf (showing .locked false id) ⟨0, 0⟩) = false ∧ State.reset.slots[(0 : Fin 16)].current = none ∧
    (showing .locked false current).slots[(0 : Fin 16)].current = some { buffer := ⟨0, 0⟩, sequence := 5 } ∧
    (⟨0, 0⟩ : BufferName) ≠ ⟨0, 1⟩ ∧ (0 : Fin 8).val < (showing .locked false id).entries[(0 : Fin 32)].fields.ringLength := by
  decide +kernel

/-- R94: with the other buffer current before, the new one is SHOWN and held, the old one let go. -/
theorem test_new_frame_moves_hold :
    (bufferOf (takeNew 0 ⟨0, 1⟩ (showing .locked false current)) ⟨0, 1⟩).holdCount = 1 ∧
    (takeNew 0 ⟨0, 1⟩ (showing .locked false current)).slots[(0 : Fin 16)].state = .run := by decide +kernel

/-- Slot 3 holds an abort record for OUT0. -/
def aborting : State :=
  modifyEmission 3
    (fun u => { u with aborts := u.aborts.set 0 (some { outputTag := 1, outputFrame := 2, index := 3 }) }) State.reset

/-- Slot 0 enabled, its active entry with bad parity. -/
def failingRoute : State :=
  modifyRoute 0
    (fun r => { r with active := { fields := { r.active.fields with enabled := true }, parityGood := false } }) State.reset

theorem test_witness_before_choice :
    (State.reset.slots[(0 : Fin 16)].holdExpiryDue = false ∧ State.reset.routes[(0 : Fin 16)].pending = none ∧
      State.reset.routes[(0 : Fin 16)].active.parityGood = true ∧ State.reset.emissions[(0 : Fin 16)].record.status ≠ .active) ∧
    (modifyRoute 0 (fun r => { r with pending := some State.resetRouteEntry }) State.reset).routes[(0 : Fin 16)].pending =
      some State.resetRouteEntry ∧ State.resetRouteEntry.parityGood = true ∧
    ({ State.resetRouteEntry with parityGood := false } : RouteEntry).parityGood = false ∧
    (activeFails failingRoute 0 = true ∧ activeFails State.reset 0 = false ∧
      adoptionFails (modifyRoute 0 (fun r => { r with pending := some { State.resetRouteEntry with parityGood := false } })
        State.reset) 0 = true) ∧
    ({ State.reset.slots[(0 : Fin 16)] with holdExpiryDue := true } : SlotContext).holdExpiryDue = true ∧
    (modifyEmission 0 frameActive State.reset).emissions[(0 : Fin 16)].record.status = .active ∧
    (modifyEmission 0 frameActive State.reset).emissions[(0 : Fin 16)].aborts[(0 : Fin 4)] = none ∧
    (modifyEmission 3 frameActive aborting).emissions[(3 : Fin 16)].record.status = .active ∧
    (modifyEmission 3 frameActive aborting).emissions[(3 : Fin 16)].record.egressPort = 0 ∧
    (modifyEmission 3 frameActive aborting).emissions[(3 : Fin 16)].aborts[(0 : Fin 4)] =
      some { outputTag := 1, outputFrame := 2, index := 3 } := by decide +kernel

theorem test_witness_generator :
    ((generating State.reset).resetHeld = none ∧ (generating State.reset).generator.stream = some 0 ∧
      (generating State.reset).generator.state = .running ∧ (generating State.reset).generator.frameStartDue = true ∧
      (generating State.reset).entries[(0 : Fin 32)].parityGood = true ∧ State.reset.generator.state ≠ .running) ∧
    (parityBad (generating State.reset)).entries[(0 : Fin 32)].parityGood = false ∧
    ((offerBurst 0 (generating State.reset)).generator.waiting.isSome = true ∧ State.reset.writeQueue.length < 16 ∧
      16 ≤ (queueFull State.reset).writeQueue.length ∧ State.reset.generator.waiting = none) ∧
    (State.reset.generator.pattern = .count ∧ State.reset.generator.frameLength ≤ State.reset.generator.burstsTaken + 1 ∧
      State.reset.generator.burstsTaken + 1 < 2 ∧ State.reset.generator.frameCount = 0 ∧
      (State.reset.generator.framesDone + 1#32).toNat = 1) ∧
    ({ State.reset.generator with frameCount := 1 } : Generator).frameCount ≠ 0 := by decide +kernel

/-- A checker synced to the words of a pattern. -/
def synced (p : Pattern) (e : Option Expectation) : Checker :=
  { State.reset.checker with state := .synced, pattern := p, expectation := e, fillWord := 7#32 }

theorem test_witness_patterns :
    ({ State.reset.generator with pattern := .pn } : Generator).pattern = .pn ∧
    predicted (synced .fill none) = some 7#32 ∧ predicted (synced .pn (some (.pn (BitVec.allOnes 23)))) = some 0x00003E00#32 ∧
    predicted (synced .pn none) = none ∧ predicted (synced .count (some (.count 9#32))) = some 9#32 ∧
    ({ synced .fill none with state := .seeking, matchRun := 15 } : Checker).matchRun = 15 ∧
    ({ synced .fill none with mismatchRun := 7 } : Checker).mismatchRun = 7 ∧
    (judgeWord .wrap false { synced .fill none with state := .seeking, matchRun := 15 } 7#32).2 = some 2 ∧
    (judgeWord .wrap false (synced .fill none) 7#32).2 = none := by decide +kernel

theorem test_witness_taps :
    continuationFault fillingOne.entries[(0 : Fin 32)].fields fillingOne.rings[(0 : Fin 32)][(1 : Fin 8)]
      (mediaBurst .bodyBurst 64 1) = none ∧ (mediaBurst .bodyBurst 64 1).kind = .bodyBurst ∧
    fillingBuffer fillingOne 0 = some 1 ∧ chooseTarget State.reset 0 = some 0 ∧
    (sendingFrom (.slotEntry 3) State.reset).resetHeld = none ∧
    (passBurst .endBurst [7#32] { State.reset with checker := synced .fill none }).checker.frames = 1 := by decide +kernel

theorem test_witness_checker :
    State.reset.checker.state = .idle ∧ State.reset.checker.expectation = none ∧ State.reset.checker.pattern = .count ∧
    (14 + 1 < 16 ∧ 6 < 7) ∧ (5#32 ≠ 6#32) ∧
    ({ State.reset.checker with state := .synced, expectation := some (.count 5#32), restartAtFrame := true } : Checker).restartAtFrame
      = true := by decide +kernel

/-- Slot 15 has a held block for OUT0. -/
def holdingBlock : State :=
  modifyEmission 15
    (fun u =>
      { frameActive u with fifo :=
          [{ position := 0, words := [1#32], mediaError := false, owner := .activeEmission, state := .held }] })
    State.reset

theorem test_witness_egress_grant :
    (State.reset.egress[(0 : Fin 4)].sending = none ∧ State.reset.egress[(0 : Fin 4)].enabled = true ∧
      nextParticipant State.reset 0 = none) ∧
    (nextParticipant aborting 0 = some 3 ∧
      burstAt aborting 0 3 = some (.slotAbort 3, burstOfAbort { outputTag := 1, outputFrame := 2, index := 3 })) ∧
    (nextParticipant holdingBlock 0 = some 15 ∧ (burstAt holdingBlock 0 15).isSome = true) ∧
    (nextParticipant { State.reset with replyQueue := [replyOf 1] } 0 = some 16 ∧
      ({ State.reset with replyQueue := [replyOf 1] } : State).replyQueue = [replyOf 1]) ∧
    (modifyEgress 0 (fun q => { q with enabled := false }) aborting).egress[(0 : Fin 4)].enabled = false ∧
    (sendingFrom .reply State.reset).egress[(0 : Fin 4)].sending.isSome = true ∧
    (aborting.emissions[(3 : Fin 16)].aborts[(0 : Fin 4)].isSome = true ∧
      holdingBlock.emissions[(15 : Fin 16)].aborts[(0 : Fin 4)] = none ∧
      holdingBlock.emissions[(15 : Fin 16)].record.status = .active ∧
      holdingBlock.emissions[(15 : Fin 16)].record.egressPort = 0 ∧
      (holdingBlock.emissions[(15 : Fin 16)].fifo.find? (fun x => x.state == .held && x.owner == .activeEmission)).isSome = true ∧
      State.reset.emissions[(0 : Fin 16)].record.status ≠ .active) := by decide +kernel

theorem test_witness_egress_completion :
    State.reset.egress[(0 : Fin 4)].sending = none ∧
    (sendingFrom (.slotAbort 3) State.reset).egress[(0 : Fin 4)].sending =
      some (transmission (.slotAbort 3) (mediaBurst .singleBurst 1 0) .lsbFirst) ∧
    (sendingFrom (.slotEntry 3) State.reset).egress[(0 : Fin 4)].sending =
      some (transmission (.slotEntry 3) (mediaBurst .singleBurst 1 0) .lsbFirst) ∧
    (sendingFrom .reply State.reset).egress[(0 : Fin 4)].sending =
      some (transmission .reply (mediaBurst .singleBurst 1 0) .lsbFirst) ∧
    (replyOf 1).isResetPart = false := by decide +kernel

theorem test_witness_replies :
    ({ State.reset with replyQueue := List.replicate 3 (replyOf 1) } : State).replyQueue.length < 4 ∧
    4 ≤ ({ State.reset with replyQueue := List.replicate 4 (replyOf 1) } : State).replyQueue.length ∧
    (replyOf 1).isResetPart = false ∧ (replyOf 2).isResetPart = true ∧
    kindOfCode 5#4 = some .abortBurst ∧ (rowOfCode 0x21#8).isSome = true ∧
    ({ State.reset with executor := .waitReplySpace (replyOf 1) } : State).executor = .waitReplySpace (replyOf 1) := by
  decide +kernel

theorem test_witness_requests_in_turn :
    (State.reset.executor = .idle ∧ formGood [] = false ∧ formGood [0#32, 1#32] = false ∧ formGood (request 1 []) = true) ∧
    rowOfCode 0x21#8 = some .readTestStatus ∧ State.reset.requestQueue = [] ∧
    (requestCode (request 1 []) ≠ 2#8) ∧ (∀ q : Nat, q < 1 → State.reset.executor = .idle) ∧
    formGood (request 0x13 (0#32 :: 60#32 :: List.replicate 60 0#32)) = true ∧
    formGood (request 0x13 [0#32, 1#32]) = false := by decide +kernel

/-- Operands, each a number. -/
def numbers (ns : List Nat) : List Word := ns.map num

theorem test_witness_part_requests :
    RequestReady 0x01#8 (request 0x01 []) [] (asking (request 0x01 []) State.reset) ∧
    RequestReady 0x02#8 (request 0x02 []) [] (asking (request 0x02 []) State.reset) ∧
    RequestReady 0x03#8 (request 0x03 []) [] (asking (request 0x03 []) State.reset) ∧
    (let p := request 0x04 (numbers [1, 1, 1, 1, 0, 0, 0, 0, 0, 0, 0, 0, 1, 0, 1, 0, 1, 0, 1, 1, 3])
     RequestReady 0x04#8 p [] (asking p State.reset) ∧ argument p 20 ≤ 3 ∧ (∀ i, i < 20 → argument p i ≤ 1) ∧
      argument p (3 * (0 : Fin 4).val) = 1 ∧ argument p (3 * (0 : Fin 4).val + 1) = 1) ∧
    (let p := request 0x04 (numbers [2, 1, 1, 1, 0, 0, 0, 0, 0, 0, 0, 0, 1, 0, 1, 0, 1, 0, 1, 1, 3]) ; 1 < argument p 0) ∧
    (let p := request 0x04 (numbers [0, 1, 1, 1, 0, 0, 0, 0, 0, 0, 0, 0, 1, 0, 1, 0, 1, 0, 1, 1, 4]) ; 3 < argument p 20) ∧
    (let p := request 0x04 (numbers [0, 1, 1, 1, 0, 0, 0, 0, 0, 0, 0, 0, 1, 0, 1, 0, 1, 0, 1, 1, 0])
     ∀ q : Fin 4, ¬(argument p (3 * q.val) = 1 ∧ argument p (3 * q.val + 1) = 1)) := by
  unfold RequestReady; decide +kernel

theorem test_witness_stream_reads :
    (let p := request 0x05 [31#32] ; RequestReady 0x05#8 p [] (asking p State.reset) ∧ argument p 0 = (31 : Fin 32).val) ∧
    (let p := request 0x05 [32#32] ; RequestReady 0x05#8 p [] (asking p State.reset) ∧ 31 < argument p 0) ∧
    (let p := request 0x09 [0#32] ; RequestReady 0x09#8 p [] (asking p State.reset) ∧ argument p 0 = (0 : Fin 32).val) ∧
    (let p := request 0x09 [32#32] ; RequestReady 0x09#8 p [] (asking p State.reset) ∧ 31 < argument p 0) ∧
    (let p := request 0x0A [0#32] ; RequestReady 0x0A#8 p [] (asking p State.reset) ∧ argument p 0 = (0 : Fin 32).val) ∧
    (let p := request 0x0A [32#32] ; RequestReady 0x0A#8 p [] (asking p State.reset) ∧ 31 < argument p 0) := by
  unfold RequestReady; decide +kernel

theorem test_witness_stream_entry :
    (let p := request 0x06 (numbers [0, 4, 65535, 4096, 8, 4096, 1, 0xFFFFFE, 0xFFFFFE, 15, 15, 15, 15, 1])
     RequestReady 0x06#8 p [] (asking p State.reset) ∧ argument p 0 = (0 : Fin 32).val ∧ argument p 13 = 1 ∧
      firstFailure (streamEntryChecks 0 (requestOperands p) State.reset) = none ∧
      firstFailure (streamEntryChecks 0 (requestOperands p) (streamIn .lost State.reset)) = some .refused) ∧
    (let p := request 0x06 (numbers [0, 5, 65535, 4096, 8, 4096, 1, 0xFFFFFE, 0xFFFFFE, 15, 15, 15, 15, 1])
     firstFailure (streamEntryChecks 0 (requestOperands p) State.reset) = some (.badArgument 2)) ∧
    (let p := request 0x06 (numbers [32, 0, 0, 1, 2, 0, 0, 0, 0, 1, 1, 1, 1, 0])
     RequestReady 0x06#8 p [] (asking p State.reset) ∧ 31 < argument p 0) := by
  unfold RequestReady; decide +kernel

theorem test_witness_stream_service :
    (let p := request 0x07 [0#32]
     RequestReady 0x07#8 p [] (asking p State.reset) ∧ argument p 0 = (0 : Fin 32).val ∧
      State.reset.contexts[(0 : Fin 32)].state = .off ∧ State.reset.entries[(0 : Fin 32)].parityGood = true ∧
      firstFailure (enableChecks 0 State.reset) = none ∧ (streamIn .closing State.reset).contexts[(0 : Fin 32)].state ≠ .off ∧
      (parityBad State.reset).entries[(0 : Fin 32)].parityGood = false ∧
      firstFailure (enableChecks 0 (ringWith 65537 id)) = some (.badArgument 3)) ∧
    (let p := request 0x07 [32#32] ; RequestReady 0x07#8 p [] (asking p State.reset) ∧ 31 < argument p 0) ∧
    (let p := request 0x08 [0#32]
     RequestReady 0x08#8 p [] (asking p State.reset) ∧ argument p 0 = (0 : Fin 32).val ∧
      (streamIn .lost State.reset).contexts[(0 : Fin 32)].state ≠ .off ∧
      (streamIn .lost State.reset).contexts[(0 : Fin 32)].state ≠ .closing) ∧
    (let p := request 0x08 [32#32] ; RequestReady 0x08#8 p [] (asking p State.reset) ∧ 31 < argument p 0) := by
  unfold RequestReady; decide +kernel

theorem test_witness_routes :
    (let p := request 0x0B [15#32] ; RequestReady 0x0B#8 p [] (asking p State.reset) ∧ argument p 0 = (15 : Fin 16).val) ∧
    (let p := request 0x0B [16#32] ; RequestReady 0x0B#8 p [] (asking p State.reset) ∧ 15 < argument p 0) ∧
    (let p := request 0x0C (numbers [0, 1, 31, 7, 255, 2, 0xFFFFFFFF, 4096, 3, 61])
     RequestReady 0x0C#8 p [] (asking p State.reset) ∧ argument p 0 = (0 : Fin 16).val ∧
      firstFailure (routeChecks (requestOperands p)) = none) ∧
    (let p := request 0x0C (numbers [0, 1, 31, 7, 255, 2, 0, 4096, 3, 62])
     firstFailure (routeChecks (requestOperands p)) = some (.badArgument 9)) ∧
    (let p := request 0x0C (numbers [16, 0, 0, 0, 0, 0, 0, 1, 0, 0])
     RequestReady 0x0C#8 p [] (asking p State.reset) ∧ 15 < argument p 0) ∧
    (let p := request 0x0D [15#32] ; RequestReady 0x0D#8 p [] (asking p State.reset) ∧ argument p 0 = (15 : Fin 16).val) ∧
    (let p := request 0x0D [16#32] ; RequestReady 0x0D#8 p [] (asking p State.reset) ∧ 15 < argument p 0) := by
  unfold RequestReady; decide +kernel

theorem test_witness_reference_requests :
    (let p := request 0x0E [] ; RequestReady 0x0E#8 p [] (asking p State.reset)) ∧
    (let p := request 0x0F (numbers [1, 16777214, 4194303, 15, 15])
     RequestReady 0x0F#8 p [] (asking p State.reset) ∧ argument p 0 = 1 ∧ State.reset.reference.mode = .free ∧
      firstFailure (refChecks (refParamsOf (requestOperands p))) = none) ∧
    (let p := request 0x0F (numbers [0, 1000, 250, 1, 1])
     RequestReady 0x0F#8 p [] (asking p (following .tracking 0 State.reset)) ∧ argument p 0 = 0 ∧
      argument p 0 = State.reset.reference.mode.code ∧ (following .tracking 0 State.reset).reference.mode = .follow ∧
      firstFailure (refChecks (refParamsOf (requestOperands p))) = none) ∧
    (let p := request 0x0F (numbers [0, 999, 0, 1, 1])
     firstFailure (refChecks (refParamsOf (requestOperands p))) = some (.badArgument 2)) := by
  unfold RequestReady; decide +kernel

theorem test_witness_arbitration :
    (let p := request 0x10 [] ; RequestReady 0x10#8 p [] (asking p State.reset)) ∧
    (let p := request 0x11 (numbers [5, 7, 6, 64])
     RequestReady 0x11#8 p [] (asking p State.reset) ∧ firstFailure (arbitrationChecks (requestOperands p)) = none ∧
      State.reset.arbiter.refreshTimer < argument p 3 ∧
      ∀ owed : Fin 9,
        let s := modifyArbiter (fun a => { a with refreshTimer := 64, refreshOwed := owed.val }) State.reset
        RequestReady 0x11#8 p [] (asking p s) ∧ argument p 3 ≤ (asking p s).arbiter.refreshTimer ∧
          (asking p s).arbiter.refreshOwed = owed.val) ∧
    (let p := request 0x11 (numbers [5, 6, 6, 64])
     firstFailure (arbitrationChecks (requestOperands p)) = some (.badArgument 4)) := by
  unfold RequestReady; decide +kernel

theorem test_witness_memory_requests :
    (let p := request 0x12 (numbers [4194288, 16])
     RequestReady 0x12#8 p [] (asking p State.reset) ∧ 1 ≤ argument p 1 ∧ argument p 1 ≤ 16 ∧
      argument p 0 + argument p 1 ≤ 64 * State.reset.memory.blocks) ∧
    (let p := request 0x12 (numbers [4194289, 16])
     RequestReady 0x12#8 p [] (asking p State.reset) ∧ 64 * State.reset.memory.blocks < argument p 0 + argument p 1) ∧
    (let p := request 0x12 (numbers [0, 17]) ; RequestReady 0x12#8 p [] (asking p State.reset) ∧ 16 < argument p 1) ∧
    (let p := request 0x13 (numbers [63, 2, 7, 8])
     RequestReady 0x13#8 p [] (asking p State.reset) ∧ argument p 0 + argument p 1 ≤ 64 * State.reset.memory.blocks ∧
      (∀ n : Fin 32, State.reset.contexts[n].state = .off) ∧
      ((streamIn .locked State.reset).contexts[(0 : Fin 32)].state ≠ .off ∧ argument p 0 ≤ 63 ∧
        63 < argument p 0 + argument p 1 ∧ State.reset.entries[(0 : Fin 32)].fields.regionBase ≤ 63 / 64 ∧
        63 / 64 < State.reset.entries[(0 : Fin 32)].fields.regionBase + 1 * 2)) := by
  unfold RequestReady; decide +kernel

theorem test_witness_counters :
    (let p := request 0x14 [0#32] ; RequestReady 0x14#8 p [] (asking p State.reset) ∧ argument p 0 = 0) ∧
    (let p := request 0x14 [1#32] ; RequestReady 0x14#8 p [] (asking p State.reset) ∧ argument p 0 = 1) ∧
    (let p := request 0x14 [2#32] ; RequestReady 0x14#8 p [] (asking p State.reset) ∧ 1 < argument p 0) ∧
    (let p := request 0x15 (numbers [0, 31]) ; RequestReady 0x15#8 p [] (asking p State.reset) ∧ argument p 1 = (31 : Fin 32).val) ∧
    (let p := request 0x15 (numbers [1, 15]) ; argument p 0 = 1 ∧ argument p 1 = (15 : Fin 16).val) ∧
    (let p := request 0x15 (numbers [2, 3]) ; argument p 0 = 2 ∧ argument p 1 = (3 : Fin 4).val) ∧
    (let p := request 0x15 (numbers [3, 0]) ; argument p 0 = 3 ∧ argument p 1 = (0 : Fin 4).val) ∧
    (let p := request 0x15 (numbers [4, 0]) ; argument p 0 = 4 ∧ argument p 1 = 0) ∧
    (let p := request 0x15 (numbers [5, 0]) ; RequestReady 0x15#8 p [] (asking p State.reset) ∧ argument p 0 = 5 ∧ argument p 1 = 0) ∧
    (let p := request 0x15 (numbers [5, 1]) ; argument p 0 ≤ 5 ∧ [32, 16, 4, 4, 1, 1].getD (argument p 0) 0 ≤ argument p 1) ∧
    (let p := request 0x15 (numbers [6, 0]) ; 5 < argument p 0) ∧
    (let p := request 0x16 [1#32] ; RequestReady 0x16#8 p [] (asking p State.reset) ∧ argument p 0 ≤ 1) ∧
    (let p := request 0x16 [2#32] ; RequestReady 0x16#8 p [] (asking p State.reset) ∧ 1 < argument p 0) := by
  unfold RequestReady; decide +kernel

/-- Latch 4 is pending and unmasked. -/
def latched : State :=
  { State.reset with latches := modifyAt State.reset.latches 4 fun l => { l with pending := true, mask := true } }

theorem test_witness_events :
    (let p := request 0x17 []
     RequestReady 0x17#8 p [] (asking p State.reset) ∧ RequestReady 0x17#8 p [] (asking p latched) ∧
      (∀ i : Fin 16, ¬(State.reset.latches[i].pending = true ∧ State.reset.latches[i].mask = true)) ∧
      latched.latches[(4 : Fin 16)].pending = true ∧ latched.latches[(4 : Fin 16)].mask = true ∧
      (∀ j : Fin 16, 4 < j → ¬(latched.latches[j].pending = true ∧ latched.latches[j].mask = true))) ∧
    (let p := request 0x18 [] ; RequestReady 0x18#8 p [] (asking p State.reset)) ∧
    (let p := request 0x19 [0xFFFFFFFF#32] ; RequestReady 0x19#8 p [] (asking p State.reset)) ∧
    (let p := request 0x1A [0xFFFFFFFF#32] ; RequestReady 0x1A#8 p [] (asking p State.reset)) := by
  unfold RequestReady; decide +kernel

theorem test_witness_fault_requests :
    (let p := request 0x1B []
     RequestReady 0x1B#8 p [] (asking p State.reset) ∧ State.reset.faults.captured = none ∧
      (majorFault .refreshOverdue .refresh 0 none State.reset).faults.captured.isSome = true) ∧
    (let p := request 0x1C [] ; RequestReady 0x1C#8 p [] (asking p State.reset)) := by
  unfold RequestReady; decide +kernel

theorem test_witness_test_requests :
    (let p := request 0x1D (numbers [0, 2, 9, 4096, 65535, 255])
     RequestReady 0x1D#8 p [] (asking p State.reset) ∧ argument p 0 = (0 : Fin 32).val ∧
      firstFailure (generatorChecks 0 (requestOperands p) (fromGenerator (streamIn .locked State.reset))) = none ∧
      firstFailure (generatorChecks 0 (requestOperands p) State.reset) = some .refused) ∧
    (let p := request 0x1D (numbers [0, 3, 9, 4096, 65535, 255])
     firstFailure (generatorChecks 0 (requestOperands p) State.reset) = some (.badArgument 2)) ∧
    (let p := request 0x1D (numbers [32, 2, 9, 4096, 65535, 255])
     RequestReady 0x1D#8 p [] (asking p State.reset) ∧ 31 < argument p 0) ∧
    (let p := request 0x1E []
     RequestReady 0x1E#8 p [] (asking p State.reset) ∧ State.reset.generator.state = .stopped ∧
      (generating State.reset).generator.state = .running ∧ (generating State.reset).generator.inProgress = false ∧
      { (generating State.reset).generator with inProgress := true }.inProgress = true) ∧
    (let p := request 0x1F (numbers [2, 15, 2, 0, 1])
     RequestReady 0x1F#8 p [] (asking p State.reset) ∧ firstFailure (checkerChecks .slot (requestOperands p)) = none) ∧
    (let p := request 0x1F (numbers [2, 16, 2, 0, 1])
     firstFailure (checkerChecks .slot (requestOperands p)) = some (.badArgument 2)) ∧
    (let p := request 0x20 [1#32] ; RequestReady 0x20#8 p [] (asking p State.reset) ∧ argument p 0 ≤ 1) ∧
    (let p := request 0x20 [2#32] ; RequestReady 0x20#8 p [] (asking p State.reset) ∧ 1 < argument p 0) ∧
    (let p := request 0x21 [] ; RequestReady 0x21#8 p [] (asking p State.reset)) := by
  unfold RequestReady; decide +kernel

/-- R143: bits that leave one bit in error take effect, bits that would leave the word good do not. -/
theorem test_abandoned_merge_reads_corrected :
    (let m := State.reset.memory
     (m.disturb 3 [7]).verdict 3 = .corrected ∧ ((m.disturb 3 [7]).disturb 3 [7]).verdict 3 = .corrected ∧
      (m.disturb 3 [7, 70]).verdict 3 = .uncorrectable ∧ m.disturb 3 [] = m) := by
  decide +kernel

theorem test_witness_laws : QueuesBounded State.reset ∧ FaultRecordLawful State.reset.faults := by
  refine ⟨?_, ?_⟩
  · unfold QueuesBounded; decide +kernel
  · exact ⟨by decide +kernel, by decide +kernel, by decide +kernel, ⟨rfl, rfl⟩⟩

end Sys2Proof.Tests
end

section
/-! PROOFS. The bounds of the queues (R7, R112, R132, R137, R141, R177, R182), which every step keeps. -/

namespace Sys2Proof.Machine

/-! ## The bounds, field by field -/

/-- What QueuesBounded asks of one field of State; nothing of a field that holds no queue. -/
def Field.bounded (f : Field) (s : State) : Prop :=
  match f with
  | .ingress => ∀ p : Fin 4, s.ingress[p].fifo.length ≤ 8
  | .writeQueue => s.writeQueue.length ≤ 16
  | .requestQueue => s.requestQueue.length ≤ 4
  | .replyQueue => s.replyQueue.length ≤ 4
  | .emissions => ∀ k : Fin 16, fifoFill s.emissions[k] ≤ 8
  | .arbiter => s.arbiter.lowMark ≤ 7 ∧ s.arbiter.refreshOwed ≤ 8
  | _ => True

theorem queuesBounded_iff (s : State) : QueuesBounded s ↔ ∀ f : Field, f.bounded s := by
  constructor
  · rintro ⟨hi, hw, hq, hr, he, hl, ho⟩ f
    cases f
    case ingress => exact hi
    case writeQueue => exact hw
    case requestQueue => exact hq
    case replyQueue => exact hr
    case emissions => exact he
    case arbiter => exact ⟨hl, ho⟩
    all_goals trivial
  · intro h
    obtain ⟨hl, ho⟩ := h .arbiter
    exact ⟨h .ingress, h .writeQueue, h .requestQueue, h .replyQueue, h .emissions, hl, ho⟩

/-- The bound of a field depends on that field alone. -/
theorem Field.bounded_of_same {f : Field} {s t : State} (h : f.same s t) (hs : f.bounded s) : f.bounded t := by
  cases f
  case ingress | writeQueue | requestQueue | replyQueue | emissions | arbiter =>
    simp only [Field.same, Field.bounded] at h hs ⊢
    rw [h]
    exact hs
  all_goals trivial

/-- A change has to answer only for the fields it touches. -/
theorem QueuesBounded.of_touched {touched : List Field} {s t : State} (hs : QueuesBounded s) (hk : Keeps touched s t)
    (ht : ∀ f ∈ touched, f.bounded t) : QueuesBounded t := by
  rw [queuesBounded_iff] at hs ⊢
  intro f
  by_cases hf : f ∈ touched
  · exact ht f hf
  · exact Field.bounded_of_same (hk f hf) (hs f)

/-- The fields that hold no queue and no bounded value. -/
def Field.unbounded (f : Field) : Bool :=
  match f with
  | .ingress => false
  | .writeQueue => false
  | .requestQueue => false
  | .replyQueue => false
  | .emissions => false
  | .arbiter => false
  | _ => true

theorem Field.bounded_of_unbounded {f : Field} (h : f.unbounded = true) (s : State) : f.bounded s := by
  cases f <;> trivial

/-- A change of other fields leaves every queue within its bound. -/
theorem QueuesBounded.of_apart {touched : List Field} {s t : State} (hs : QueuesBounded s) (hk : Keeps touched s t)
    (apart : touched.all Field.unbounded = true) : QueuesBounded t :=
  hs.of_touched hk fun _ hf => Field.bounded_of_unbounded (List.all_eq_true.mp apart _ hf) t

/-! ## Ingress FIFOs: the dispatcher's burst, faults, and the entry to CLOSING -/

theorem QueuesBounded.finishBurst {s : State} (hs : QueuesBounded s) (p : Fin 4) : QueuesBounded (finishBurst p s) := by
  obtain ⟨hi, hrest⟩ := hs
  refine ⟨fun q => ?_, hrest⟩
  have hq := hi q
  have hp := hi p
  show (modifyAt s.ingress p fun r => { r with fifo := r.fifo.tail })[q].fifo.length ≤ 8
  rw [modifyAt_get]
  split
  · simp only [List.length_tail]; omega
  · exact hq

theorem QueuesBounded.discardWaiting {s : State} (hs : QueuesBounded s) : QueuesBounded (discardWaiting s) := by
  unfold Machine.discardWaiting
  split
  · exact hs
  · exact hs.finishBurst _

theorem QueuesBounded.misrouteWaiting {s : State} (hs : QueuesBounded s) (n : Fin 32) :
    QueuesBounded (misrouteWaiting n s) := by
  unfold Machine.misrouteWaiting
  split
  · exact hs
  · split
    · exact hs
    · split
      · exact (hs.finishBurst _).of_apart (misroute_keeps _ _) (by decide)
      · exact hs

theorem QueuesBounded.enterSafe {s : State} (hs : QueuesBounded s) : QueuesBounded (enterSafe s) := by
  have safe : QueuesBounded { s with faults := { s.faults with double := true, mode := .safe } } := hs
  exact safe.discardWaiting.of_apart (abortGenerator_keeps _) (by decide)

theorem QueuesBounded.majorFault {s : State} (hs : QueuesBounded s) (kind : FaultKind) (source : FaultSource) (i : Nat)
    (block : Option Nat) : QueuesBounded (majorFault kind source i block s) := by
  unfold Machine.majorFault
  split
  · exact hs
  · split
    · exact hs.enterSafe.of_apart (raise_keeps _ _ _ _) (by decide)
    · exact hs

theorem QueuesBounded.judgeAccess {s : State} (hs : QueuesBounded s) (v : EccVerdict) (source : FaultSource)
    (i block : Nat) : QueuesBounded (judgeAccess v source i block s) := by
  cases v with
  | good => exact hs
  | corrected =>
    exact (hs.of_apart (countMemory_keeps s _) (by decide)).of_apart (minorFault_keeps _ _ _ _ _) (by decide)
  | uncorrectable => exact (hs.of_apart (countMemory_keeps s _) (by decide)).majorFault _ _ _ _

theorem QueuesBounded.enterClosing {s : State} (hs : QueuesBounded s) (n : Fin 32) : QueuesBounded (enterClosing n s) := by
  have closing := hs.of_apart (modifyContext_keeps s n closingContext) (by decide)
  have released := closing.of_apart
    (Keeps.forEach (releaseBuffer n) (fun i t => releaseBuffer_keeps n i t) (indexes 8) _) (by decide)
  have aborted := released.of_apart (abortGeneratorOf_keeps n _) (by decide)
  exact (aborted.misrouteWaiting n).of_apart (settleClosing_keeps n _) (by decide)

theorem QueuesBounded.entryParityFailure {s : State} (hs : QueuesBounded s) (n : Fin 32) :
    QueuesBounded (entryParityFailure n s) :=
  (hs.majorFault _ _ _ _).enterClosing n

theorem QueuesBounded.checkEntry {s : State} (hs : QueuesBounded s) (n : Fin 32) : QueuesBounded (checkEntry n s) := by
  unfold Machine.checkEntry
  split
  · exact hs.entryParityFailure n
  · exact hs

/-! ## Ingress FIFOs: reception (R7) -/

theorem QueuesBounded.offerToFifo {s : State} (hs : QueuesBounded s) (p : Fin 4) (b : Burst) :
    QueuesBounded (offerToFifo p b s) := by
  unfold Machine.offerToFifo
  split
  · rename_i room
    obtain ⟨hi, hrest⟩ := hs
    refine ⟨fun q => ?_, hrest⟩
    have hq := hi q
    show (modifyAt s.ingress p fun r => { r with fifo := r.fifo ++ [b] })[q].fifo.length ≤ 8
    rw [modifyAt_get]
    split
    · simp only [List.length_append, List.length_singleton]
      exact room
    · exact hq
  · exact (hs.of_apart (countIngress_keeps s p _) (by decide)).of_apart (raise_keeps _ _ _ _) (by decide)

theorem QueuesBounded.receiveBurst {s : State} (hs : QueuesBounded s) (p : Fin 4) (r : Reception) :
    QueuesBounded (receiveBurst p r s) := by
  unfold Machine.receiveBurst judgeBurst
  split
  · split
    · exact hs.of_apart (burstError_keeps p _ _ s) (by decide)
    · exact hs.of_apart (burstError_keeps p _ _ s) (by decide)
    · exact hs.of_apart (burstError_keeps p _ _ s) (by decide)
    · exact hs.offerToFifo p _
  · exact hs

/-! ## The write queue (R132) -/

/-- R60: an append finds a free entry. -/
theorem QueuesBounded.appendWrite {s : State} (hs : QueuesBounded s) (room : s.writeQueue.length < 16) (n : Fin 32)
    (i : Fin 8) (b : Burst) (last : Bool) : QueuesBounded (appendWrite n i b last s) := by
  have appended : QueuesBounded { s with writeQueue := s.writeQueue ++ [writeEntryOf s n i b last] } := by
    obtain ⟨hi, _, hrest⟩ := hs
    exact ⟨hi, by simpa using room, hrest⟩
  exact (appended.of_apart (modifyContext_keeps _ n _) (by decide)).of_apart (tapStream_keeps n _ _ _) (by decide)

theorem QueuesBounded.sealFrame {s : State} (hs : QueuesBounded s) (room : s.writeQueue.length < 16) (n : Fin 32)
    (i : Fin 8) (b : Burst) : QueuesBounded (sealFrame n i b s) :=
  (hs.of_apart (modifyBuffer_keeps s ⟨n, i⟩ (sealedRecord b)) (by decide)).appendWrite room n i b true

theorem QueuesBounded.claimTarget {s : State} (hs : QueuesBounded s) (room : s.writeQueue.length < 16) (n : Fin 32)
    (i : Fin 8) (b : Burst) : QueuesBounded (claimTarget n i b s) := by
  have counted : Keeps [.live] s (if (bufferOf s ⟨n, i⟩).state = .ready then countStream n .dropped s else s) := by
    split
    · exact countStream_keeps s n .dropped
    · exact Keeps.refl _ s
  have filled := (counted.seq
    (modifyBuffer_keeps _ ⟨n, i⟩ (filledRecord s.contexts[n].fillTagCounter b.frameNumber))
    (both := [.live, .rings]) (by decide)).seq
    (modifyContext_keeps _ n fun c => { c with fillTagCounter := c.fillTagCounter + 1#8 })
    (both := [.live, .rings, .contexts]) (by decide)
  have bounded := hs.of_apart filled (by decide)
  have queue := filled .writeQueue (by decide)
  unfold Machine.claimTarget
  dsimp only
  split
  · exact bounded.sealFrame (queue ▸ room) n i b
  · exact bounded.appendWrite (queue ▸ room) n i b false

theorem QueuesBounded.ringFrameStart {s : State} (hs : QueuesBounded s) (room : s.writeQueue.length < 16) (n : Fin 32)
    (b : Burst) : QueuesBounded (ringFrameStart n b s) := by
  have abandoned : Keeps [.rings, .live, .latches] s
      (match fillingBuffer s n with
       | none => s
       | some i => abandon ⟨n, i⟩ 4 s) := by
    split
    · exact Keeps.refl _ s
    · exact abandon_keeps _ 4 s
  have bounded := hs.of_apart abandoned (by decide)
  have queue := abandoned .writeQueue (by decide)
  unfold Machine.ringFrameStart
  dsimp only
  split
  · exact bounded.of_apart (damage_keeps n _ _) (by decide)
  · split
    · exact bounded.claimTarget (queue ▸ room) n _ b
    · exact bounded.of_apart (refuseFrame_keeps n _) (by decide)

theorem QueuesBounded.ringContinue {s : State} (hs : QueuesBounded s) (room : s.writeQueue.length < 16) (n : Fin 32)
    (b : Burst) : QueuesBounded (ringContinue n b s) := by
  unfold Machine.ringContinue
  split
  · exact hs
  · split
    · exact hs.of_apart (abandon_keeps _ _ s) (by decide)
    · split
      · exact hs.sealFrame room n _ b
      · exact (hs.of_apart (modifyBuffer_keeps s _ _) (by decide)).appendWrite room n _ b false

/-- R60: stream acceptance appends at most one entry, for which it has found a place. -/
theorem QueuesBounded.acceptBurst {s : State} (hs : QueuesBounded s) (room : s.writeQueue.length < 16) (n : Fin 32)
    (b : Burst) : QueuesBounded (acceptBurst n b s) := by
  have context := frameStartContext_keeps n b.frameNumber s
  have queue : (frameStartContext n b.frameNumber s).writeQueue = s.writeQueue := context .writeQueue (by decide)
  unfold Machine.acceptBurst
  split
  · exact (hs.of_apart context (by decide)).ringFrameStart (queue ▸ room) n b
  · exact hs.ringContinue room n b

theorem room_of_writeQueueHasRoom {s : State} (h : writeQueueHasRoom s = true) : s.writeQueue.length < 16 :=
  of_decide_eq_true h

/-! ## The dispatcher and the request queue (R8 to R11, R177) -/

theorem QueuesBounded.intakeRequest {s : State} (hs : QueuesBounded s) (p : Fin 4) (b : Burst) :
    QueuesBounded (intakeRequest p b s) := by
  unfold Machine.intakeRequest discardRequest
  split
  · split
    · rename_i room
      obtain ⟨hi, hw, _, hrest⟩ := hs
      have hq : (s.requestQueue ++ [b.payload]).length ≤ 4 := by
        rw [List.length_append, List.length_singleton]; exact room
      exact ⟨hi, hw, hq, hrest⟩
    · exact hs.of_apart (raise_keeps s _ _ _) (by decide)
  · exact hs.of_apart (raise_keeps s _ _ _) (by decide)

theorem QueuesBounded.routeMedia {s : State} (hs : QueuesBounded s) (p : Fin 4) (n : Fin 32) (b : Burst) :
    QueuesBounded (routeMedia p n b s) := by
  unfold Machine.routeMedia
  split
  · split
    · rename_i room
      exact (hs.finishBurst p).acceptBurst (room_of_writeQueueHasRoom room) n b
    · exact hs
  · exact (hs.finishBurst p).of_apart (misroute_keeps p _) (by decide)

theorem QueuesBounded.decideMedia {s : State} (hs : QueuesBounded s) (p : Fin 4) (b : Burst) :
    QueuesBounded (decideMedia p b s) := by
  unfold Machine.decideMedia
  split
  · exact hs.finishBurst p
  · exact (hs.checkEntry _).routeMedia p _ b

theorem QueuesBounded.decideBurst {s : State} (hs : QueuesBounded s) (p : Fin 4) (b : Burst) :
    QueuesBounded (decideBurst p b s) := by
  unfold Machine.decideBurst
  split
  · exact (hs.finishBurst p).intakeRequest p b
  · exact hs.decideMedia p b
  · exact hs.decideMedia p b
  · exact hs.decideMedia p b
  · exact hs.decideMedia p b
  · exact hs.finishBurst p
  · exact hs.finishBurst p

theorem QueuesBounded.dispatch {s : State} (hs : QueuesBounded s) : QueuesBounded (dispatch s) := by
  unfold Machine.dispatch
  split
  · split
    · exact hs
    · split
      · exact hs
      · exact hs.decideBurst _ _
  · exact hs

theorem QueuesBounded.retryWaiting {s : State} (hs : QueuesBounded s) : QueuesBounded (retryWaiting s) := by
  have free : QueuesBounded { s with dispatcher := { s.dispatcher with waiting := none } } := hs
  unfold Machine.retryWaiting
  split
  · split
    · exact hs
    · split
      · exact free
      · exact free.decideBurst _ _
  · exact hs

/-! ## The slot FIFOs (R112, R118, R121) -/

theorem QueuesBounded.modifyEmission {s : State} (hs : QueuesBounded s) (k : Fin 16) (f : EmissionUnit → EmissionUnit)
    (hf : fifoFill s.emissions[k] ≤ 8 → fifoFill (f s.emissions[k]) ≤ 8) : QueuesBounded (modifyEmission k f s) := by
  obtain ⟨hi, hw, hq, hr, he, harb⟩ := hs
  refine ⟨hi, hw, hq, hr, fun j => ?_, harb⟩
  show fifoFill (modifyAt s.emissions k f)[j] ≤ 8
  rw [modifyAt_get]
  split
  · exact hf (he k)
  · exact he j

/-- R118: the blocks placed fill the FIFO up to 8 at most. -/
theorem fifoFill_refill_le {u : EmissionUnit} (h : fifoFill u ≤ 8) : fifoFill (refill u) ≤ 8 := by
  unfold refill
  split
  · have placed : blocksToPlace u ≤ 8 - fifoFill u := Nat.min_le_left _ _
    simp only [fifoFill, List.length_append, List.length_map, List.length_range] at *
    omega
  · exact h

/-- R122: a cut leaves the entries in transmission and the read in flight. -/
theorem fifoFill_cutEmission_le (u : EmissionUnit) : fifoFill (cutEmission u) ≤ fifoFill u := by
  have kept := List.length_filter_le (fun e : BlockEntry => e.state != .held) u.fifo
  simp only [fifoFill, cutEmission, List.length_map, Option.isSome_map]
  omega

/-- R115: a read is granted where the fill leaves a place for it. -/
theorem fifoFill_startRead_of_claims {a : Arbiter} {u : EmissionUnit} (ha : a.lowMark ≤ 7) (h : readerClaims a u = true) :
    fifoFill (startRead u) ≤ 8 := by
  simp only [readerClaims, Bool.and_eq_true, decide_eq_true_eq, Option.isNone_iff_eq_none] at h
  obtain ⟨⟨_, idle⟩, low⟩ := h
  simp only [fifoFill, startRead, idle, Option.isSome_none, Option.isSome_some, if_true, Bool.false_eq_true, if_false]
    at low ⊢
  omega

/-- R116: the block read takes the place that its read in flight held. -/
theorem fifoFill_takeBlock_le {u : EmissionUnit} (h : fifoFill u ≤ 8) (r : SlotRead) (words : List Word) (bad : Bool)
    (reading : u.readInFlight.isSome = true) : fifoFill (takeBlock r words bad u) ≤ 8 := by
  have short : u.fifo.length + 1 ≤ 8 := by simpa [fifoFill, reading] using h
  unfold takeBlock
  split
  · simp only [fifoFill, List.length_append, List.length_singleton, Option.isSome_none, Bool.false_eq_true, if_false]
    omega
  · apply fifoFill_refill_le
    simp only [fifoFill, Option.isSome_none, Bool.false_eq_true, if_false]
    omega

theorem length_markTransmission (p : Fin 4) (fifo : List BlockEntry) : (markTransmission p fifo).length = fifo.length := by
  induction fifo with
  | nil => rfl
  | cons e rest ih =>
    unfold markTransmission
    split
    · rfl
    · simp [ih]

theorem fifoFill_takenFrom (p : Fin 4) (u : EmissionUnit) : fifoFill (takenFrom p u) = fifoFill u := by
  unfold takenFrom
  split
  · rfl
  · simp only [fifoFill, length_markTransmission]

theorem fifoFill_blockDone_le {u : EmissionUnit} (h : fifoFill u ≤ 8) (p : Fin 4) : fifoFill (blockDone p u) ≤ 8 := by
  have kept := List.length_filter_le (fun e : BlockEntry => e.state != .inTransmission p) u.fifo
  apply fifoFill_refill_le
  simp only [fifoFill, withoutEntry] at *
  omega

theorem QueuesBounded.beginEmission {s : State} (hs : QueuesBounded s) (k : Fin 16) (r : EmissionRecord) :
    QueuesBounded (beginEmission k r s) := by
  have advanced := (hs.of_apart (countSlot_keeps s k 1 .emitted) (by decide)).of_apart
    (modifySlot_keeps _ k fun c => { c with outputFrame := c.outputFrame + 1#16 }) (by decide)
  exact advanced.modifyEmission k _ fun h => fifoFill_refill_le h

theorem QueuesBounded.emitSubstitute {s : State} (hs : QueuesBounded s) (k : Fin 16) :
    QueuesBounded (emitSubstitute k s) := by
  unfold Machine.emitSubstitute
  split
  · exact hs
  · exact hs.beginEmission k _

theorem QueuesBounded.cutIfLate {s : State} (hs : QueuesBounded s) (k : Fin 16) : QueuesBounded (cutIfLate k s) := by
  unfold Machine.cutIfLate
  split
  · have cut := hs.modifyEmission k cutEmission fun h => (fifoFill_cutEmission_le _).trans h
    exact (cut.of_apart (countSlot_keeps _ k 1 .late) (by decide)).of_apart (raise_keeps _ _ _ _) (by decide)
  · exact hs

/-! ## A slot at a tick (R87) -/

theorem QueuesBounded.routeParityFailure {s : State} (hs : QueuesBounded s) (k : Fin 16) :
    QueuesBounded (routeParityFailure k s) :=
  (hs.of_apart (modifyRoute_keeps s k _) (by decide)).majorFault _ _ _ _

theorem QueuesBounded.adoptPending {s : State} (hs : QueuesBounded s) (k : Fin 16) :
    QueuesBounded (adoptPending k s) := by
  unfold Machine.adoptPending
  split
  · exact hs
  · split
    · unfold adoptEntry
      dsimp only
      split
      · exact hs
      · exact hs
    · exact hs.routeParityFailure k

theorem QueuesBounded.checkActive {s : State} (hs : QueuesBounded s) (k : Fin 16) : QueuesBounded (checkActive k s) := by
  unfold Machine.checkActive
  split
  · exact hs.routeParityFailure k
  · exact hs

theorem QueuesBounded.substitute {s : State} (hs : QueuesBounded s) (k : Fin 16) (c : SubstCause) :
    QueuesBounded (substitute k c s) := by
  have left := (hs.of_apart (releaseCurrent_keeps k s) (by decide)).of_apart
    (modifySlot_keeps _ k fun t => { t with state := .subst, holdTimer := 0, cause := some c }) (by decide)
  have told := (left.of_apart (countSlot_keeps _ k 1 .substitutes) (by decide)).of_apart
    (raiseSubstitute_keeps k s.slots[k].state c _) (by decide)
  unfold Machine.substitute
  dsimp only
  split
  · exact told
  · exact told.emitSubstitute k

theorem QueuesBounded.takeNew {s : State} (hs : QueuesBounded s) (k : Fin 16) (b : BufferName) :
    QueuesBounded (takeNew k b s) := by
  have held := (hs.of_apart (releaseCurrent_keeps k s) (by decide)).of_apart (takeHold_keeps b _) (by decide)
  exact ((held.of_apart (modifySlot_keeps _ k _) (by decide)).of_apart (countSlot_keeps _ k _ .skips)
    (by decide)).beginEmission k _

theorem QueuesBounded.repeatFrame {s : State} (hs : QueuesBounded s) (k : Fin 16) (st : SlotState) (timer : Nat)
    (b : BufferName) : QueuesBounded (repeatFrame k st timer b s) :=
  ((hs.of_apart (modifySlot_keeps s k _) (by decide)).of_apart (countSlot_keeps _ k 1 .repeats)
    (by decide)).beginEmission k _

theorem QueuesBounded.chooseLocked {s : State} (hs : QueuesBounded s) (k : Fin 16) (n : Fin 32) :
    QueuesBounded (chooseLocked k n s) := by
  unfold Machine.chooseLocked
  dsimp only
  split
  · split
    · exact hs.substitute k _
    · split
      · exact hs.substitute k _
      · exact hs.repeatFrame k _ _ _
  · split
    · exact hs.takeNew k _
    · split
      · exact hs.substitute k _
      · split
        · exact hs.substitute k _
        · exact hs.repeatFrame k _ _ _

theorem QueuesBounded.chooseUnlocked {s : State} (hs : QueuesBounded s) (k : Fin 16) :
    QueuesBounded (chooseUnlocked k s) := by
  unfold Machine.chooseUnlocked
  dsimp only
  split
  · exact hs.substitute k _
  · split
    · split
      · exact hs.of_apart (modifySlot_keeps s k _) (by decide)
      · split
        · exact hs.substitute k _
        · exact hs.repeatFrame k _ _ _
    · split
      · exact hs.substitute k _
      · split
        · exact hs.substitute k _
        · exact hs.repeatFrame k _ _ _

theorem QueuesBounded.choose {s : State} (hs : QueuesBounded s) (k : Fin 16) (failed : Bool) :
    QueuesBounded (choose k failed s) := by
  unfold Machine.choose
  dsimp only
  split
  · exact hs.substitute k _
  · split
    · split
      · exact hs.substitute k _
      · split
        · exact hs.substitute k _
        · exact hs.substitute k _
        · exact hs.chooseLocked k _
        · exact hs.chooseUnlocked k
        · exact hs.chooseUnlocked k
    · exact hs.of_apart (goOff_keeps k s) (by decide)

theorem QueuesBounded.expireHold {s : State} (hs : QueuesBounded s) (k : Fin 16) : QueuesBounded (expireHold k s) := by
  unfold Machine.expireHold
  split
  · exact (hs.of_apart (modifySlot_keeps s k _) (by decide)).substitute k _
  · exact hs

theorem QueuesBounded.slotWork {s : State} (hs : QueuesBounded s) (k : Fin 16) : QueuesBounded (slotWork k s) := by
  have adopted := ((hs.expireHold k).adoptPending k).cutIfLate k
  exact ((adopted.checkActive k).choose k _).of_apart (countDownHold_keeps k _) (by decide)

/-! ## The generator and the tick (R20, R157, R158) -/

theorem QueuesBounded.takeGenerated {s : State} (hs : QueuesBounded s) : QueuesBounded (takeGenerated s) := by
  unfold Machine.takeGenerated
  split
  · split
    · rename_i room
      exact (hs.acceptBurst (room_of_writeQueueHasRoom room) _ _).of_apart (afterTaking_keeps _ _) (by decide)
    · exact hs
  · exact hs

theorem QueuesBounded.startGeneratedFrame {s : State} (hs : QueuesBounded s) :
    QueuesBounded (startGeneratedFrame s) := by
  have record (g : Generator) : QueuesBounded { s with generator := g } := hs
  unfold Machine.startGeneratedFrame
  split
  · split
    · exact hs
    · split
      · exact ((record _).of_apart (offerBurst_keeps _ _) (by decide)).takeGenerated
      · exact (record _).entryParityFailure _
  · exact hs

theorem QueuesBounded.doTickWork {s : State} (hs : QueuesBounded s) (w : TickWork) : QueuesBounded (doTickWork w s) := by
  cases w with
  | count n => exact hs.of_apart (countTick_keeps n s) (by decide)
  | judge n => exact hs.of_apart (judgeActivity_keeps n s) (by decide)
  | slot k => exact hs.slotWork k
  | generator => exact hs.startGeneratedFrame

theorem QueuesBounded.makeTick {s : State} (hs : QueuesBounded s) (order : List TickWork) :
    QueuesBounded (makeTick order s) := by
  have judged := hs.of_apart (Keeps.forEach judgeActivity (fun n t => judgeActivity_keeps n t) (indexes 32) s) (by decide)
  have finished : QueuesBounded (finishTick s) := forEach_keeps QueuesBounded _ (fun k _ h => h.expireHold k) _ _ judged
  have numbered := finished.of_apart (numberTick_keeps _) (by decide)
  exact forEach_keeps QueuesBounded _ (fun w _ h => h.doTickWork w) _ _ numbered

/-! ## The rows of the reference unit (R22 to R27) -/

theorem QueuesBounded.whileClocked {s : State} (hs : QueuesBounded s) {f : State → State} (hf : QueuesBounded (f s)) :
    QueuesBounded (whileClocked f s) := by
  unfold Machine.whileClocked
  split
  · exact hf
  · exact hs

theorem QueuesBounded.freeExpiry {s : State} (hs : QueuesBounded s) (order : List TickWork) :
    QueuesBounded (freeExpiry order s) := by
  unfold Machine.freeExpiry
  split
  · exact (hs.makeTick order).of_apart (modifyReference_keeps _ _) (by decide)
  · exact hs

theorem QueuesBounded.closeWindow {s : State} (hs : QueuesBounded s) (order : List TickWork) :
    QueuesBounded (closeWindow order s) := by
  unfold Machine.closeWindow
  split
  · have closed := ((hs.makeTick order).of_apart (countReference_keeps _ .flywheelTicks) (by decide)).of_apart
      (modifyReference_keeps _ closedWindow) (by decide)
    exact (closed.of_apart (raiseAtClose_keeps _ _ _) (by decide)).of_apart (modifyReference_keeps _ _) (by decide)
  · exact hs

theorem QueuesBounded.searchFlywheel {s : State} (hs : QueuesBounded s) (order : List TickWork) :
    QueuesBounded (searchFlywheel order s) := by
  unfold Machine.searchFlywheel
  split
  · exact ((hs.makeTick order).of_apart (countReference_keeps _ _) (by decide)).of_apart (modifyReference_keeps _ _)
      (by decide)
  · exact hs

theorem QueuesBounded.edgeWhileFollowing {s : State} (hs : QueuesBounded s) (order : List TickWork) :
    QueuesBounded (edgeWhileFollowing order s) := by
  have ticked := (hs.makeTick order).of_apart
    (modifyReference_keeps _ fun r => adoptedParams false { r with periodCounter := 0, missedRun := 0, state := .tracking })
    (by decide)
  unfold Machine.edgeWhileFollowing
  dsimp only
  split
  · exact hs
  · split
    · unfold edgeInWindow
      dsimp only
      split
      · exact ticked.of_apart (raiseRefState_keeps _ _) (by decide)
      · exact ticked
    · exact hs

theorem QueuesBounded.edgeWhileSearching {s : State} (hs : QueuesBounded s) (order : List TickWork) :
    QueuesBounded (edgeWhileSearching order s) := by
  have tracking := (hs.of_apart (modifyReference_keeps s regained) (by decide)).of_apart (raiseRefState_keeps .tracking _)
    (by decide)
  unfold Machine.edgeWhileSearching
  split
  · unfold regain
    dsimp only
    split
    · exact (tracking.makeTick order).of_apart (modifyReference_keeps _ _) (by decide)
    · exact tracking
  · exact hs

theorem QueuesBounded.seeEdge {s : State} (hs : QueuesBounded s) (order : List TickWork) :
    QueuesBounded (seeEdge order s) := by
  unfold Machine.seeEdge
  split
  · exact hs
  · exact hs.edgeWhileFollowing order
  · exact hs.edgeWhileFollowing order
  · exact hs.edgeWhileSearching order

/-! ## Frame memory and arbitration (R115, R133 to R137) -/

/-- A change of the arbiter answers for the low mark and the refresh owed. -/
theorem QueuesBounded.modifyArbiter {s : State} (hs : QueuesBounded s) (f : Arbiter → Arbiter)
    (hl : (f s.arbiter).lowMark ≤ 7) (ho : (f s.arbiter).refreshOwed ≤ 8) : QueuesBounded (modifyArbiter f s) := by
  obtain ⟨hi, hw, hq, hr, he, _⟩ := hs
  exact ⟨hi, hw, hq, hr, he, hl, ho⟩

theorem length_startWrite (q : List WriteEntry) : (startWrite q).length = q.length := by
  cases q <;> rfl

/-- R136: a slot found by a search whose claims are the reader's has the reader's claim. -/
theorem readerClaims_of_nextReader {s : State} {claims : EmissionUnit → Bool}
    (hc : ∀ u, claims u = true → readerClaims s.arbiter u = true) {a : Access}
    (h : (nextReader s claims).map Access.egress = some a) :
    ∃ k, a = .egress k ∧ readerClaims s.arbiter s.emissions[k] = true := by
  obtain ⟨k, hk, rfl⟩ := Option.map_eq_some_iff.mp h
  exact ⟨k, rfl, hc _ (List.find?_some (p := fun k : Fin 16 => claims s.emissions[k]) hk)⟩

/-- R115, R135: a slot whose read the arbiter chooses has the reader's claim. -/
theorem readerClaims_of_chooseClaim {s : State} {k : Fin 16} (h : chooseClaim s = some (.egress k)) :
    readerClaims s.arbiter s.emissions[k] = true := by
  have urgent (kind : ClaimKind) (hk : urgentClaim s kind = some (.egress k)) :
      readerClaims s.arbiter s.emissions[k] = true := by
    cases kind with
    | ingress => unfold urgentClaim at hk; dsimp only at hk; split at hk <;> cases hk
    | egress =>
      obtain ⟨j, hj, hclaim⟩ := readerClaims_of_nextReader
        (fun u hu => by unfold readerUrgent at hu; exact (Bool.and_eq_true _ _ ▸ hu).1) hk
      cases hj
      exact hclaim
    | mgmt => cases hk
  have normal (kind : ClaimKind) (hk : normalClaim s kind = some (.egress k)) :
      readerClaims s.arbiter s.emissions[k] = true := by
    cases kind with
    | ingress => unfold normalClaim at hk; dsimp only at hk; split at hk <;> cases hk
    | egress =>
      obtain ⟨j, hj, hclaim⟩ := readerClaims_of_nextReader (fun u hu => hu) hk
      cases hj
      exact hclaim
    | mgmt => unfold normalClaim at hk; dsimp only at hk; split at hk <;> cases hk
  unfold chooseClaim at h
  split at h
  · cases h
  · split at h
    · rename_i hf
      cases h
      obtain ⟨kind, _, hkind⟩ := List.exists_of_findSome?_eq_some hf
      exact urgent kind hkind
    · split at h
      · rename_i hf
        cases h
        obtain ⟨kind, _, hkind⟩ := List.exists_of_findSome?_eq_some hf
        exact normal kind hkind
      · split at h <;> cases h

theorem QueuesBounded.grantMemory {s : State} (hs : QueuesBounded s) : QueuesBounded (grantMemory s) := by
  unfold Machine.grantMemory
  split
  · split
    · exact hs
    · rename_i a chosen
      cases a with
      | ingress =>
        obtain ⟨hi, hw, hrest⟩ := hs
        exact ⟨hi, (length_startWrite s.writeQueue).le.trans hw, hrest⟩
      | egress k =>
        obtain ⟨_, _, _, _, _, low, _⟩ := id hs
        have pointed : QueuesBounded
            (Machine.modifyArbiter (fun b => { b with egressPointer := k })
              (Machine.modifyArbiter (fun b => { b with access := some (.egress k) }) s)) := hs
        exact pointed.modifyEmission k startRead
          fun _ => fifoFill_startRead_of_claims low (readerClaims_of_chooseClaim chosen)
      | mgmt => exact hs
      | refresh => exact hs
  · exact hs

theorem QueuesBounded.completeWrite {s : State} {e : WriteEntry} {rest : List WriteEntry} (hs : QueuesBounded s)
    (hq : s.writeQueue = e :: rest) : QueuesBounded (completeWrite e rest s) := by
  have left : QueuesBounded
      (endAccess { s with memory := s.memory.store (64 * e.target) e.payload, writeQueue := rest }) := by
    obtain ⟨hi, hw, hrest⟩ := hs
    rw [hq, List.length_cons] at hw
    exact ⟨hi, by show rest.length ≤ 16; omega, hrest⟩
  have counted := left.of_apart
    (modifyContext_keeps _ e.stream fun c => { c with writesOutstanding := c.writesOutstanding - 1 }) (by decide)
  exact ((counted.of_apart (ringCompletion_keeps e _) (by decide)).of_apart (settleClosing_keeps _ _)
    (by decide)).judgeAccess _ _ _ _

theorem QueuesBounded.completeSlotRead {s : State} {k : Fin 16} {r : SlotRead} (hs : QueuesBounded s)
    (hr : s.emissions[k].readInFlight = some r) : QueuesBounded (completeSlotRead k r s) := by
  have taken (words : List Word) (bad : Bool) :
      QueuesBounded (Machine.modifyEmission k (takeBlock r words bad) (endAccess s)) :=
    (show QueuesBounded (endAccess s) from hs).modifyEmission k _
      fun h => fifoFill_takeBlock_le h r words bad (by rw [endAccess_emissions, hr]; rfl)
  unfold Machine.completeSlotRead
  dsimp only
  apply QueuesBounded.judgeAccess
  split
  · exact (taken _ _).of_apart (reportMediaError_keeps r _) (by decide)
  · exact taken _ _

theorem QueuesBounded.completeRefresh {s : State} (hs : QueuesBounded s) : QueuesBounded (completeRefresh s) := by
  unfold Machine.completeRefresh
  split
  · obtain ⟨_, _, _, _, _, hl, ho⟩ := id hs
    exact (show QueuesBounded (endAccess s) from hs).modifyArbiter _ hl ((Nat.sub_le _ _).trans ho)
  · exact hs

/-- R137: refresh owed rises only below 8. -/
theorem QueuesBounded.expireRefreshTimer {s : State} (hs : QueuesBounded s) :
    QueuesBounded (expireRefreshTimer s) := by
  unfold Machine.expireRefreshTimer
  split
  · split
    · rename_i below
      obtain ⟨_, _, _, _, _, hl, _⟩ := id hs
      exact hs.modifyArbiter _ hl below
    · have stopped : QueuesBounded (Machine.modifyArbiter (fun a => { a with refreshTimer := 0 }) s) := hs
      exact stopped.majorFault _ _ _ _
  · exact hs

/-! ## The reply queue, the egress ports and the resets (R16, R182, R186) -/

theorem QueuesBounded.offerReply {s : State} (hs : QueuesBounded s) (r : Reply) : QueuesBounded (offerReply r s) := by
  unfold Machine.offerReply
  split
  · rename_i room
    obtain ⟨hi, hw, hq, _, hrest⟩ := hs
    have hr : (s.replyQueue ++ [r]).length ≤ 4 := by rw [List.length_append, List.length_singleton]; exact room
    exact ⟨hi, hw, hq, hr, hrest⟩
  · exact hs

theorem QueuesBounded.queueWaitingReply {s : State} (hs : QueuesBounded s) : QueuesBounded (queueWaitingReply s) := by
  unfold Machine.queueWaitingReply
  split
  · exact hs.offerReply _
  · exact hs
  · exact hs
  · exact hs

theorem QueuesBounded.completeManagement {s : State} (hs : QueuesBounded s) (j : MemoryJob) :
    QueuesBounded (completeManagement j s) := by
  have ended : QueuesBounded (endAccess { s with memory := memoryAfter s.memory j }) := hs
  exact (ended.judgeAccess _ _ _ _).offerReply _

theorem queuesBounded_reset : QueuesBounded State.reset := by
  refine ⟨?_, Nat.zero_le _, Nat.zero_le _, Nat.zero_le _, ?_, by decide, by decide⟩
  · decide
  · intro k
    simp [State.reset, State.resetEmission, fifoFill]

/-- R186: a reset leaves every block but frame memory and what is not the part's at its reset value. -/
theorem queuesBounded_resetBlocks (s : State) : QueuesBounded (resetBlocks s) := queuesBounded_reset

theorem queuesBounded_beginPinReset {s : State} (hs : QueuesBounded s) : QueuesBounded (beginPinReset s) := by
  unfold beginPinReset
  split
  · exact hs
  · exact queuesBounded_resetBlocks s

theorem queuesBounded_managementReset (s : State) : QueuesBounded (managementReset s) := by
  obtain ⟨_, hrest⟩ := queuesBounded_resetBlocks s
  refine ⟨fun p => ?_, hrest⟩
  show (mapTable keptIngress s.ingress)[p].fifo.length ≤ 8
  rw [mapTable_get]
  exact Nat.zero_le _

theorem QueuesBounded.replyDone {s : State} (hs : QueuesBounded s) : QueuesBounded (replyDone s) := by
  unfold Machine.replyDone
  split
  · exact hs
  · rename_i r rest hq
    split
    · exact queuesBounded_managementReset _
    · obtain ⟨hi, hw, hreq, hr, hrest⟩ := hs
      rw [hq, List.length_cons] at hr
      exact ⟨hi, hw, hreq, by show rest.length ≤ 4; omega, hrest⟩

theorem QueuesBounded.burstDone {s : State} (hs : QueuesBounded s) (p : Fin 4) (from_ : Participant) (b : Burst) :
    QueuesBounded (burstDone p from_ b s) := by
  cases from_ with
  | slotEntry k =>
    exact (hs.of_apart (tapSlot_keeps k _ _ s) (by decide)).modifyEmission k _ fun h => fifoFill_blockDone_le h p
  | slotAbort k => exact hs
  | reply => exact hs.replyDone

theorem QueuesBounded.takeBurst {s : State} (hs : QueuesBounded s) (p : Fin 4) (i : Fin 17) :
    QueuesBounded (takeBurst p i s) := by
  have moved := hs.of_apart (modifyEgress_keeps s p fun q => { q with pointer := i }) (by decide)
  unfold Machine.takeBurst
  dsimp only
  split
  · exact moved.modifyEmission _ _ fun h => (fifoFill_takenFrom p _).le.trans h
  · exact moved

theorem QueuesBounded.grantEgress {s : State} (hs : QueuesBounded s) (p : Fin 4) : QueuesBounded (grantEgress p s) := by
  unfold Machine.grantEgress
  split
  · split
    · exact hs
    · split
      · exact hs
      · split
        · exact (hs.takeBurst p _).of_apart (startSending_keeps p _ _ _) (by decide)
        · exact ((hs.takeBurst p _).of_apart (countEgress_keeps _ p _) (by decide)).burstDone p _ _
  · exact hs

theorem QueuesBounded.completeEgress {s : State} (hs : QueuesBounded s) (p : Fin 4) :
    QueuesBounded (completeEgress p s) := by
  unfold Machine.completeEgress
  split
  · exact hs
  · exact ((hs.of_apart (modifyEgress_keeps s p _) (by decide)).of_apart (countEgress_keeps _ p _)
      (by decide)).burstDone p _ _

/-! ## Requests (R179) -/

/-- A request's own rule keeps the bounds. -/
def KeepsBounds (body : RequestBody) : Prop := ∀ ops s, QueuesBounded s → QueuesBounded (body ops s).1

theorem QueuesBounded.takeRequest {s : State} {p : List Word} {rest : List (List Word)} (hs : QueuesBounded s)
    (hq : s.requestQueue = p :: rest) : QueuesBounded (takeRequest rest s) := by
  obtain ⟨hi, hw, hreq, hrest⟩ := hs
  rw [hq, List.length_cons] at hreq
  exact ⟨hi, hw, by show rest.length ≤ 4; omega, hrest⟩

theorem QueuesBounded.answerRequest {s : State} (hs : QueuesBounded s) (p : List Word) (a : Answer) :
    QueuesBounded (answerRequest p a s) := by
  cases a with
  | ok results => exact hs.offerReply _
  | badArgument reason => exact hs.offerReply _
  | refused => exact hs.offerReply _
  | waitMemory address count data => exact hs

theorem QueuesBounded.runRequest {s : State} (hs : QueuesBounded s) {body : RequestBody} (hb : KeepsBounds body)
    (code : BitVec 8) : QueuesBounded (runRequest code body s) := by
  rcases runRequest_cases code body s with same | ⟨p, rest, ⟨_, _, hq, _⟩, run⟩
  · rw [same]
    exact hs
  · rw [run]
    exact (hb _ _ (hs.takeRequest hq)).answerRequest p _

theorem QueuesBounded.runBadRequest {s : State} (hs : QueuesBounded s) : QueuesBounded (runBadRequest s) := by
  unfold Machine.runBadRequest
  split
  · exact hs
  · rename_i hq
    split
    · exact (hs.takeRequest hq).offerReply _
    · exact hs

theorem queuesBounded_checked {checks : List (Bool × Answer)} {s : State} {effect : State × Answer}
    (hs : QueuesBounded s) (he : QueuesBounded effect.1) : QueuesBounded (checked checks s effect).1 := by
  rcases checked_cases checks s effect with same | ⟨a, _, failed⟩
  · rw [same]
    exact he
  · rw [failed]
    exact hs

theorem keepsBounds_onStream {body : Fin 32 → RequestBody} (hb : ∀ n, KeepsBounds (body n)) :
    KeepsBounds (onStream body) := by
  intro ops s hs
  unfold onStream
  split
  · exact hs
  · exact hb _ ops s hs

theorem keepsBounds_onSlot {body : Fin 16 → RequestBody} (hb : ∀ k, KeepsBounds (body k)) :
    KeepsBounds (onSlot body) := by
  intro ops s hs
  unfold onSlot
  split
  · exact hs
  · exact hb _ ops s hs

/-- A request that only reads (R179). -/
theorem keepsBounds_read (answer : List Word → State → Answer) : KeepsBounds fun ops s => (s, answer ops s) :=
  fun _ _ hs => hs

/-- R13: a port turned off has its FIFO emptied; no setting lengthens one. -/
theorem length_writeIngress_le (ops : List Word) (i : Fin 4) (p : IngressPort) :
    (writeIngress ops i p).fifo.length ≤ p.fifo.length := by
  unfold writeIngress
  dsimp only
  split
  · exact Nat.zero_le _
  · exact le_rfl

theorem keepsBounds_writePorts : KeepsBounds bodyWritePorts := by
  intro ops s hs
  apply queuesBounded_checked hs
  obtain ⟨hi, hrest⟩ := hs
  refine ⟨?_, hrest⟩
  refine forEach_keeps (fun v : Vector IngressPort 4 => ∀ p : Fin 4, v[p].fifo.length ≤ 8) _ (fun i v hv p => ?_) _ _ hi
  rw [modifyAt_get]
  split
  · exact (length_writeIngress_le ops i _).trans (hv i)
  · exact hv p

theorem keepsBounds_writeStreamEntry : KeepsBounds bodyWriteStreamEntry :=
  keepsBounds_onStream fun _ _ _ hs => queuesBounded_checked hs hs

theorem keepsBounds_enableStream : KeepsBounds bodyEnableStream := by
  refine keepsBounds_onStream fun n _ s hs => ?_
  split
  · exact hs
  · split
    · exact queuesBounded_checked hs hs
    · exact hs.majorFault _ _ _ _

theorem keepsBounds_disableStream : KeepsBounds bodyDisableStream := by
  refine keepsBounds_onStream fun n _ s hs => ?_
  split
  · dsimp only
    exact hs.enterClosing n
  · exact hs

theorem keepsBounds_writeRouteEntry : KeepsBounds bodyWriteRouteEntry :=
  keepsBounds_onSlot fun _ _ _ hs => queuesBounded_checked hs hs

theorem keepsBounds_setReference : KeepsBounds bodySetReference := by
  intro ops s hs
  unfold bodySetReference
  split
  · exact hs
  · apply queuesBounded_checked hs
    unfold takeReference
    split
    · exact hs
    · split
      · exact hs
      · exact hs

/-- R141: the low mark is checked to lie from 1 to 7 before it is put in force. -/
theorem lowMark_le_of_arbitrationChecks {ops : List Word} (h : firstFailure (arbitrationChecks ops) = none) :
    operand ops 1 ≤ 7 := by
  have first := (firstFailure_none _).mp h (within 1 7 (operand ops 1), .badArgument 2) (by simp [arbitrationChecks])
  simp only [within, Bool.and_eq_true, decide_eq_true_eq] at first
  exact first.2

theorem keepsBounds_setArbitration : KeepsBounds bodySetArbitration := by
  intro ops s hs
  unfold bodySetArbitration
  split
  · exact hs
  · unfold checked
    split
    · exact hs
    · rename_i good
      obtain ⟨_, _, _, _, _, _, ho⟩ := id hs
      exact (hs.modifyArbiter (arbitrationSet _ ops) (lowMark_le_of_arbitrationChecks good) ho).expireRefreshTimer

theorem keepsBounds_memoryRead : KeepsBounds bodyMemoryRead := fun _ _ hs => queuesBounded_checked hs hs

theorem keepsBounds_memoryWrite : KeepsBounds bodyMemoryWrite := fun _ _ hs => queuesBounded_checked hs hs

theorem keepsBounds_snapshotCounters : KeepsBounds bodySnapshotCounters := by
  intro ops s hs
  unfold bodySnapshotCounters
  split
  · exact hs
  · unfold takeSnapshot
    dsimp only
    split
    · exact hs
    · exact hs

theorem keepsBounds_setCounterMode : KeepsBounds bodySetCounterMode := by
  intro ops s hs
  unfold bodySetCounterMode
  split
  · exact hs
  · exact hs

theorem keepsBounds_readEvent : KeepsBounds bodyReadEvent := by
  intro ops s hs
  unfold bodyReadEvent
  split
  · exact hs
  · exact hs

theorem QueuesBounded.setLatches {s : State} (hs : QueuesBounded s) (latches : Vector Latch 16) :
    QueuesBounded { s with latches := latches } := hs

theorem keepsBounds_clearEvents : KeepsBounds bodyClearEvents := fun _ _ hs => hs.setLatches _

theorem keepsBounds_writeEventMask : KeepsBounds bodyWriteEventMask := fun _ _ hs => hs.setLatches _

theorem keepsBounds_clearFaults : KeepsBounds bodyClearFaults := fun _ _ hs => hs

theorem keepsBounds_generatorStart : KeepsBounds bodyGeneratorStart := by
  intro ops s hs
  unfold bodyGeneratorStart
  split
  · exact hs
  · exact queuesBounded_checked hs hs

theorem keepsBounds_generatorStop : KeepsBounds bodyGeneratorStop := by
  intro ops s hs
  unfold bodyGeneratorStop
  split
  · exact hs
  · exact hs

theorem keepsBounds_checkerSetup : KeepsBounds bodyCheckerSetup := by
  intro ops s hs
  unfold bodyCheckerSetup
  split
  · exact hs
  · exact queuesBounded_checked hs hs

theorem keepsBounds_checkerSnapshot : KeepsBounds bodyCheckerSnapshot := by
  intro ops s hs
  unfold bodyCheckerSnapshot
  split
  · exact hs
  · exact hs

/-! ## Commands and steps -/

/-- R186: while RST_N is low a command changes nothing, else it does its work. -/
theorem queuesBounded_of_whileRunning {s t : State} {f : State → State} (hs : QueuesBounded s)
    (hf : QueuesBounded (f s)) (h : Host.Outcome.next (φ := Fault) (ρ := Refusal) (whileRunning s f) = .next t) :
    QueuesBounded t := by
  injection h with h
  rw [← h]
  unfold whileRunning
  split
  · exact hs
  · exact hf

/-- R179: a request that is not ready changes nothing; else its own rule and its reply keep the bounds. -/
theorem queuesBounded_of_request {s t : State} {code : BitVec 8} {body : RequestBody} (hs : QueuesBounded s)
    (hb : KeepsBounds body)
    (h : Host.Outcome.next (φ := Fault) (ρ := Refusal) (whileRunning s (runRequest code body)) = .next t) :
    QueuesBounded t :=
  queuesBounded_of_whileRunning hs (hs.runRequest hb code) h

theorem queuesBounded_of_writeCompletion {s t : State} (hs : QueuesBounded s) (h : execWriteCompletion s = .next t) :
    QueuesBounded t := by
  unfold execWriteCompletion at h
  split at h
  · cases h; exact hs
  · split at h
    · cases h; exact hs
    · rename_i e rest hw
      split at h
      · cases h
        refine hs.completeWrite ?_
        unfold writeInProgress at hw
        split at hw
        · split at hw
          · cases hw
          · cases hw; assumption
        · cases hw
      · cases h

theorem queuesBounded_of_slotReadCompletion {s t : State} (hs : QueuesBounded s)
    (h : execSlotReadCompletion s = .next t) : QueuesBounded t := by
  unfold execSlotReadCompletion at h
  split at h
  · cases h; exact hs
  · split at h
    · cases h; exact hs
    · rename_i k r hr
      split at h
      · cases h
        refine hs.completeSlotRead ?_
        unfold readInProgress at hr
        split at hr
        · simp only [Option.map_eq_some_iff, Prod.mk.injEq] at hr
          obtain ⟨_, inFlight, rfl, rfl⟩ := hr
          exact inFlight
        all_goals cases hr
      · cases h

theorem queuesBounded_of_managementAccessCompletion {s t : State} (hs : QueuesBounded s)
    (h : execManagementAccessCompletion s = .next t) : QueuesBounded t := by
  unfold execManagementAccessCompletion at h
  split at h
  · cases h; exact hs
  · split at h
    · cases h; exact hs
    · split at h
      · cases h; exact hs.completeManagement _
      · cases h

theorem queuesBounded_exec (c : Instr) (s t : State) (hs : QueuesBounded s) (h : exec c s = .next t) :
    QueuesBounded t := by
  cases c with
  | powerOnReset memsz cells bad => cases h; exact queuesBounded_resetBlocks s
  | pinReset memsz => cases h; exact queuesBounded_resetBlocks s
  | pinResetBegin => cases h; exact queuesBounded_beginPinReset hs
  | ingressBurstJudged p r => exact queuesBounded_of_whileRunning hs (hs.receiveBurst p r) h
  | dispatchBurst => exact queuesBounded_of_whileRunning hs hs.dispatch h
  | waitingBurstAccepted => exact queuesBounded_of_whileRunning hs hs.retryWaiting h
  | memoryGrant => exact queuesBounded_of_whileRunning hs hs.grantMemory h
  | writeCompletion => exact queuesBounded_of_writeCompletion hs h
  | slotReadCompletion => exact queuesBounded_of_slotReadCompletion hs h
  | managementAccessCompletion => exact queuesBounded_of_managementAccessCompletion hs h
  | refreshCompletion => exact queuesBounded_of_whileRunning hs hs.completeRefresh h
  | refreshTimerExpiry => exact queuesBounded_of_whileRunning hs hs.expireRefreshTimer h
  | refEdge order => exact queuesBounded_of_whileRunning hs (hs.whileClocked (hs.seeEdge order)) h
  | freePeriodExpiry order => exact queuesBounded_of_whileRunning hs (hs.whileClocked (hs.freeExpiry order)) h
  | windowClose order => exact queuesBounded_of_whileRunning hs (hs.whileClocked (hs.closeWindow order)) h
  | searchingFlywheel order => exact queuesBounded_of_whileRunning hs (hs.whileClocked (hs.searchFlywheel order)) h
  | activityJudgement n =>
    exact queuesBounded_of_whileRunning hs (hs.of_apart (judgeActivity_keeps n s) (by decide)) h
  | intervalOverflow n =>
    exact queuesBounded_of_whileRunning hs (hs.of_apart (overflowInterval_keeps n s) (by decide)) h
  | holdExpired k => exact queuesBounded_of_whileRunning hs (hs.expireHold k) h
  | generatorFrameStart => exact queuesBounded_of_whileRunning hs hs.startGeneratedFrame h
  | generatorBurstTaken => exact queuesBounded_of_whileRunning hs hs.takeGenerated h
  | egressGrant p => exact queuesBounded_of_whileRunning hs (hs.grantEgress p) h
  | egressBurstCompletion p => exact queuesBounded_of_whileRunning hs (hs.completeEgress p) h
  | replySpaceFreed => exact queuesBounded_of_whileRunning hs hs.queueWaitingReply h
  | badRequest => exact queuesBounded_of_whileRunning hs hs.runBadRequest h
  | writePorts => exact queuesBounded_of_request hs keepsBounds_writePorts h
  | writeStreamEntry => exact queuesBounded_of_request hs keepsBounds_writeStreamEntry h
  | enableStream => exact queuesBounded_of_request hs keepsBounds_enableStream h
  | disableStream => exact queuesBounded_of_request hs keepsBounds_disableStream h
  | writeRouteEntry => exact queuesBounded_of_request hs keepsBounds_writeRouteEntry h
  | setReference => exact queuesBounded_of_request hs keepsBounds_setReference h
  | setArbitration => exact queuesBounded_of_request hs keepsBounds_setArbitration h
  | memoryRead => exact queuesBounded_of_request hs keepsBounds_memoryRead h
  | memoryWrite => exact queuesBounded_of_request hs keepsBounds_memoryWrite h
  | snapshotCounters => exact queuesBounded_of_request hs keepsBounds_snapshotCounters h
  | setCounterMode => exact queuesBounded_of_request hs keepsBounds_setCounterMode h
  | readEvent => exact queuesBounded_of_request hs keepsBounds_readEvent h
  | clearEvents => exact queuesBounded_of_request hs keepsBounds_clearEvents h
  | writeEventMask => exact queuesBounded_of_request hs keepsBounds_writeEventMask h
  | clearFaults => exact queuesBounded_of_request hs keepsBounds_clearFaults h
  | generatorStart => exact queuesBounded_of_request hs keepsBounds_generatorStart h
  | generatorStop => exact queuesBounded_of_request hs keepsBounds_generatorStop h
  | checkerSetup => exact queuesBounded_of_request hs keepsBounds_checkerSetup h
  | checkerSnapshot => exact queuesBounded_of_request hs keepsBounds_checkerSnapshot h
  | readStreamEntry | readStreamStatus | readRingStatus =>
    refine queuesBounded_of_request hs ?_ h
    exact keepsBounds_onStream fun _ => keepsBounds_read _
  | readRouteEntry | readSlotStatus =>
    refine queuesBounded_of_request hs ?_ h
    exact keepsBounds_onSlot fun _ => keepsBounds_read _
  | readIdentity | resetPart | readPorts | readReference | readArbitration | readCounters | readEventState
  | readFaultRecord | readTestStatus =>
    refine queuesBounded_of_request hs ?_ h
    exact keepsBounds_read _

/-- A timebase unit and a disturbance change no queue; the refresh timer alone counts in the arbiter (R137). -/
theorem queuesBounded_timeUnit (s : State) (hs : QueuesBounded s) : QueuesBounded (timeUnit s) := by
  have counted : QueuesBounded (countUnit s) := hs
  exact (hs.whileClocked counted).of_apart (takeUpset_keeps _) (by decide)

/-- Settles O54: every command, and a timebase unit, keeps the bounds. -/
theorem queuesStayBounded : Obligations.QueuesStayBounded :=
  keptByStep_of (fun _ _ hs => hs) queuesBounded_exec queuesBounded_timeUnit

end Sys2Proof.Machine
end

section
/-! PROOFS. The reset values (R186). -/

namespace Sys2Proof.Machine

/-- A table whose records are all alike, read at one index. -/
theorem replicate_get {α : Type} {n : Nat} (a : α) (i : Fin n) : (Vector.replicate n a)[i] = a :=
  Vector.getElem_replicate i.isLt

theorem reset_buffer (n : Fin 32) (i : Fin 8) : bufferOf State.reset ⟨n, i⟩ = State.resetBuffer := by
  have ring : State.reset.rings[n] = Vector.replicate 8 State.resetBuffer := replicate_get _ n
  rw [bufferOf, ring]
  exact replicate_get _ i

theorem reset_route (k : Fin 16) : State.reset.routes[k] = { active := State.resetRouteEntry, pending := none } :=
  replicate_get _ k

theorem reset_emission (k : Fin 16) : State.reset.emissions[k] = State.resetEmission := replicate_get _ k

theorem reset_ingress (p : Fin 4) : State.reset.ingress[p] = State.resetIngress (decide (p = 0)) := by
  revert p
  decide

/-- Settles O5: each record of the reset state against its rule's table; a table of like records is read at one index. -/
theorem resetValues : Obligations.ResetValues := by
  have routes (k : Fin 16) : State.reset.routes[k].pending = none ∧ State.reset.routes[k].active.parityGood = true ∧
      State.reset.routes[k].active.fields = State.resetRouteFields := by
    rw [reset_route k]
    exact ⟨rfl, rfl, rfl⟩
  have emissions (k : Fin 16) : State.reset.emissions[k].record = State.resetRecord ∧
      State.reset.emissions[k].fifo = [] ∧ State.reset.emissions[k].readInFlight = none ∧
      ∀ p : Fin 4, State.reset.emissions[k].aborts[p] = none := by
    rw [reset_emission k]
    exact ⟨rfl, rfl, rfl, fun p => replicate_get _ p⟩
  have counters : State.reset.counterMode = .wrap ∧
      (∀ n : Fin 32, State.reset.live.streams[n] = ⟨0, 0, 0, 0, 0, 0, 0⟩) ∧
      (∀ k : Fin 16, State.reset.live.slots[k] = ⟨0, 0, 0, 0, 0⟩) ∧
      (∀ p : Fin 4, State.reset.live.ingress[p] = ⟨0, 0, 0, 0, 0, 0⟩) ∧
      (∀ p : Fin 4, State.reset.live.egress[p] = ⟨0, 0⟩) ∧
      State.reset.live.reference = ⟨0, 0⟩ ∧ State.reset.live.memory = ⟨0, 0⟩ :=
    ⟨rfl, fun n => replicate_get _ n, fun k => replicate_get _ k, fun p => replicate_get _ p, fun p => replicate_get _ p,
      rfl, rfl⟩
  exact ⟨rfl, fun n => replicate_get _ n, fun n => replicate_get _ n, reset_buffer, routes, fun k => replicate_get _ k,
    emissions, rfl, counters, ⟨rfl, fun n => replicate_get _ n, rfl, rfl⟩, rfl, rfl, rfl, rfl, fun i => replicate_get _ i,
    fun p => ⟨reset_ingress p, replicate_get _ p⟩, rfl, rfl, rfl, rfl, rfl, rfl, rfl, rfl, rfl⟩

end Sys2Proof.Machine
end

section
/-! PROOFS. The check word (R3), the header (R187) and the judgement of a reception (R5, R6). -/

namespace Sys2Proof.Machine

/-! ## The check word (R3) -/

theorem kindOfCode_eq_some_iff (c : BitVec 4) (k : BurstKind) : kindOfCode c = some k ↔ c = codeOfKind k := by
  cases k <;> revert c <;> decide

theorem crcBit_eq (shift : Word) (bit : Bool) :
    crcBit shift bit = if (bit ^^ shift.getLsbD 31) = true then (shift <<< 1) ^^^ 0x04C11DB7#32 else shift <<< 1 := by
  unfold crcBit
  rw [BitVec.msb_eq_getLsbD_last]

theorem fedBits_msbFirst (w : Word) : fedBits .msbFirst w = (List.range 32).map fun i => w.getLsbD (31 - i) := by
  apply List.ext_getElem
  · simp [fedBits]
  · intro i h _
    simp [fedBits, List.getElem_reverse]

theorem crcShift_eq_foldl_flatMap (o : BitOrder) (ws : List Word) :
    crcShift o ws = (ws.flatMap (fedBits o)).foldl crcBit 0xFFFFFFFF#32 := by
  rw [crcShift, List.foldl_flatMap]

/-- The value shifted up by one with a bit placed at its foot. -/
theorem getLsbD_shiftLeft_or_bit (acc : Word) (b : Bool) (i : Nat) :
    ((acc <<< 1) ||| (if b then 1#32 else 0#32)).getLsbD i =
      if i = 0 then b else (decide (i < 32) && acc.getLsbD (i - 1)) := by
  cases b <;> cases i <;> simp [BitVec.getLsbD_one]

/-- The lowest `n` bits of a word, the lowest of them placed highest. -/
theorem getLsbD_foldl_reversed (w : Word) (n i : Nat) (hn : n ≤ 32) :
    ((List.range n).foldl (fun (acc : Word) j => (acc <<< 1) ||| (if w.getLsbD j then 1#32 else 0#32)) 0#32).getLsbD i =
      (decide (i < n) && w.getLsbD (n - 1 - i)) := by
  induction n generalizing i with
  | zero => simp
  | succ n ih =>
    rw [List.range_succ, List.foldl_append, List.foldl_cons, List.foldl_nil, getLsbD_shiftLeft_or_bit]
    cases i with
    | zero => simp
    | succ i =>
      rw [if_neg (Nat.succ_ne_zero i), Nat.add_sub_cancel, ih i (by omega)]
      have offset : n - 1 - i = n - (i + 1) := by omega
      by_cases h : i < n
      · have : i + 1 < 32 := by omega
        simp [h, this, offset]
      · simp [h]

theorem getLsbD_reverseBits (w : Word) {i : Nat} (h : i < 32) : (reverseBits w).getLsbD i = w.getLsbD (31 - i) := by
  rw [reverseBits, getLsbD_foldl_reversed w 32 i le_rfl, decide_eq_true h, Bool.true_and]

/-! ## The header error (R6) -/

/-- R6: the tags of media bursts run to 31, that of a request is 63; an ABORT and a reply are not accepted. -/
theorem headerBad_iff (w0 w1 : Word) :
    headerBad w0 w1 = true ↔
      kindOfCode (headerKind w0) = none ∨ kindOfCode (headerKind w0) = some .abortBurst ∨
      kindOfCode (headerKind w0) = some .replyBurst ∨
      (∃ k : BurstKind, k.isMedia = true ∧ kindOfCode (headerKind w0) = some k ∧ 31 < (headerTag w0).toNat) ∨
      (kindOfCode (headerKind w0) = some .requestBurst ∧ (headerTag w0).toNat ≠ 63) ∨
      headerLength w0 = 0 ∨ 64 < headerLength w0 ∨ headerReserved w1 ≠ 0#16 := by
  unfold headerBad
  cases hk : kindOfCode (headerKind w0) with
  | none => simp
  | some k => cases k <;> simp [BurstKind.isMedia, or_assoc]

/-! ## The three checks (R5) -/

theorem judgeReception_framing {o : BitOrder} {r : Reception} (h : framingGood r = false) :
    judgeReception o r = .framingError := by
  rw [judgeReception, h]
  rfl

/-- R2: a reception of the announced length: header, payload and check word. -/
theorem framingGood_of_length {w0 w1 check : Word} {payload : List Word} (h : payload.length = headerLength w0)
    (ignored : Bool) : framingGood ⟨w0 :: w1 :: (payload ++ [check]), .endMarker, ignored⟩ = true := by
  simp [framingGood, h]

theorem checkGood_append (o : BitOrder) (words : List Word) (check : Word) :
    checkGood o (words ++ [check]) = (check == checkWordOf o words) := by
  simp [checkGood]

theorem judgeReception_check {o : BitOrder} {w0 w1 check : Word} {payload : List Word}
    (h : payload.length = headerLength w0) (hc : check ≠ checkWordOf o (w0 :: w1 :: payload)) (ignored : Bool) :
    judgeReception o ⟨w0 :: w1 :: (payload ++ [check]), .endMarker, ignored⟩ = .checkError := by
  have bad : checkGood o (w0 :: w1 :: (payload ++ [check])) = false := by
    rw [← List.cons_append, ← List.cons_append, checkGood_append]
    exact beq_false_of_ne hc
  rw [judgeReception, framingGood_of_length h, bad]
  rfl

theorem checkGood_received (o : BitOrder) (w0 w1 : Word) (payload : List Word) :
    checkGood o (w0 :: w1 :: (payload ++ [checkWordOf o (w0 :: w1 :: payload)])) = true := by
  rw [← List.cons_append, ← List.cons_append, checkGood_append]
  exact beq_self_eq_true _

/-- R5, R6: framing and check word good, the header decides. -/
theorem judgeReception_header {o : BitOrder} {w0 w1 : Word} {payload : List Word}
    (h : payload.length = headerLength w0) (bad : headerBad w0 w1 = true) (ignored : Bool) :
    judgeReception o ⟨w0 :: w1 :: (payload ++ [checkWordOf o (w0 :: w1 :: payload)]), .endMarker, ignored⟩ =
      .headerError := by
  rw [judgeReception, framingGood_of_length h, checkGood_received]
  exact if_pos bad

/-- R1: a burst whose checks are good; its payload is the words announced, without the check word. -/
theorem judgeReception_good {o : BitOrder} {w0 w1 : Word} {payload : List Word} {kind : BurstKind}
    (h : payload.length = headerLength w0) (good : headerBad w0 w1 = false)
    (hk : kindOfCode (headerKind w0) = some kind) (ignored : Bool) :
    judgeReception o ⟨w0 :: w1 :: (payload ++ [checkWordOf o (w0 :: w1 :: payload)]), .endMarker, ignored⟩ =
      .good
        { tag := headerTag w0, kind := kind, repeatFlag := false, substFlag := false, mediaErrFlag := false,
          index := headerIndex w0, frameNumber := headerFrame w1, payload := payload } := by
  have taken (check : Word) : (payload ++ [check]).take (headerLength w0) = payload := by
    rw [← h, List.take_left]
  rw [judgeReception, framingGood_of_length h, checkGood_received]
  simp only [if_true, good, hk, burstOfWords, taken, Bool.false_eq_true, if_false]

/-- R6: a header that is not bad names a kind. -/
theorem kindOfCode_isSome_of_good {w0 w1 : Word} (h : headerBad w0 w1 = false) :
    ∃ kind, kindOfCode (headerKind w0) = some kind := by
  cases hk : kindOfCode (headerKind w0) with
  | none => rw [(headerBad_iff w0 w1).mpr (.inl hk)] at h; cases h
  | some kind => exact ⟨kind, rfl⟩

/-- Settles O11: the check word bit by bit, the order of the three checks, and the header error case by case. -/
theorem burstChecksInOrder : Obligations.BurstChecksInOrder := by
  refine ⟨⟨⟨rfl, rfl, rfl, rfl, rfl, rfl, rfl⟩, kindOfCode_eq_some_iff⟩,
    ⟨crcBit_eq, fun w => ⟨rfl, fedBits_msbFirst w⟩, crcShift_eq_foldl_flatMap, fun _ => rfl,
      fun ws i h => getLsbD_reverseBits _ h⟩,
    fun o ignored => ⟨fun words => judgeReception_framing rfl, judgeReception_framing rfl, fun w0 rest h => ?_,
      fun w0 w1 payload check h hc => judgeReception_check h hc ignored,
      fun w0 w1 payload h => ⟨fun bad => ?_, fun good => ?_⟩,
      headerBad_iff⟩⟩
  · exact judgeReception_framing (decide_eq_false h)
  · exact judgeReception_header h bad ignored
  · obtain ⟨kind, hk⟩ := kindOfCode_isSome_of_good good
    exact ⟨kind, hk, judgeReception_good h good hk ignored⟩

end Sys2Proof.Machine
end

section
/-! PROOFS. The search round a table (R8, R15, R136): its order, and what it finds first. -/

namespace Sys2Proof.Machine

theorem length_roundFrom {n : Nat} (start : Fin n) : (roundFrom start).length = n := by
  simp [roundFrom, indexes]

/-- The search visits the indexes from its start on, going round. -/
theorem roundFrom_getElem {n : Nat} [NeZero n] (start : Fin n) (i : Nat) (h : i < (roundFrom start).length) :
    (roundFrom start)[i] = start + Fin.ofNat n i := by
  have hs := start.isLt
  rw [length_roundFrom] at h
  apply Fin.ext
  rw [Fin.val_add, Fin.val_ofNat, Nat.mod_eq_of_lt h]
  by_cases before : i < n - start.val
  · have inside : start.val + i < n := by omega
    simp [roundFrom, indexes, before, Nat.mod_eq_of_lt inside]
  · have round : (start.val + i) % n = start.val + i - n := by
      rw [Nat.mod_eq_sub_mod (by omega), Nat.mod_eq_of_lt (by omega)]
    simp [roundFrom, indexes, List.getElem_append, before, round]
    omega

/-- R8, R15: the search finds the index that meets the condition and before which, counted from the start, none does. -/
theorem find_roundFrom_eq_some_iff {n : Nat} [NeZero n] (start i : Fin n) (cond : Fin n → Bool) :
    (roundFrom start).find? cond = some i ↔
      cond i = true ∧ ∀ j : Fin n, (j - start).val < (i - start).val → cond j = false := by
  have at_offset (j : Fin n) (h : (j - start).val < (roundFrom start).length) :
      (roundFrom start)[(j - start).val] = j := by
    rw [roundFrom_getElem, Fin.ofNat_val_eq_self, add_sub_cancel]
  have offset_of (k : Nat) (h : k < (roundFrom start).length) : ((roundFrom start)[k] - start).val = k := by
    rw [roundFrom_getElem, add_sub_cancel_left, Fin.val_ofNat, Nat.mod_eq_of_lt (length_roundFrom start ▸ h)]
  rw [List.find?_eq_some_iff_getElem]
  refine and_congr_right fun _ => ?_
  constructor
  · rintro ⟨k, hk, rfl, none_before⟩ j hj
    rw [offset_of k hk] at hj
    have := none_before _ hj
    rw [at_offset] at this
    simpa using this
  · intro none_before
    refine ⟨(i - start).val, by rw [length_roundFrom]; exact (i - start).isLt, at_offset _ _, fun k hk => ?_⟩
    have inside : k < (roundFrom start).length := by
      rw [length_roundFrom]
      exact hk.trans (i - start).isLt
    have := none_before (roundFrom start)[k] (by rwa [offset_of k inside])
    simpa using this

theorem nextIndex_eq_add_one {n : Nat} [NeZero n] (i : Fin n) : nextIndex i = i + 1 := by
  apply Fin.ext
  rw [Fin.val_add, nextIndex]
  rcases Nat.lt_or_ge 1 n with h | h
  · rw [Fin.val_one', Nat.mod_eq_of_lt h]
  · have : n = 1 := le_antisymm h (NeZero.pos n)
    subst this
    simp

end Sys2Proof.Machine
end

section
/-! PROOFS. The ingress ports and the dispatcher (R5 to R11, R177). -/

namespace Sys2Proof.Machine

/-- A row whose work leaves the part as it is changes nothing, held in reset or not. -/
theorem whileRunning_unchanged {s : State} {f : State → State} (h : f s = s) : whileRunning s f = s := by
  unfold whileRunning
  rw [h, ite_self]

/-! ## INGRESS_BURST_JUDGED (R5, R7, R13) -/

theorem receiveBurst_ignored {p : Fin 4} {r : Reception} {s : State} (h : s.ingress[p].enabled = false ∨ r.ignored = true) :
    receiveBurst p r s = s := by
  have off : (s.ingress[p].enabled && !r.ignored) = false := by
    rcases h with h | h
    · rw [h, Bool.false_and]
    · rw [h, Bool.not_true, Bool.and_false]
  rw [receiveBurst, off]
  rfl

theorem receiveBurst_judged {p : Fin 4} {r : Reception} {s : State} (he : s.ingress[p].enabled = true)
    (hr : r.ignored = false) : receiveBurst p r s = judgeBurst p r s := by
  rw [receiveBurst, he, hr]
  rfl

theorem offerToFifo_room {p : Fin 4} {b : Burst} {s : State} (h : s.ingress[p].fifo.length < 8) :
    offerToFifo p b s = countIngress p .goodBursts
      { s with ingress := s.ingress.set p { s.ingress[p] with fifo := s.ingress[p].fifo ++ [b] } } := by
  rw [offerToFifo, if_pos (show s.ingress[p].fifo.length < Config.ingressFifoSize from h)]
  rfl

theorem offerToFifo_full {p : Fin 4} {b : Burst} {s : State} (h : 8 ≤ s.ingress[p].fifo.length) :
    offerToFifo p b s = raise .ingressOverrun p.val 0 (countIngress p .overruns s) := by
  rw [offerToFifo, if_neg (show ¬ s.ingress[p].fifo.length < Config.ingressFifoSize from Nat.not_lt.mpr h)]

/-- Settles O12: by the judgement of the burst, and for a good one by the room in the FIFO. -/
theorem ingressBurstOutcome : Obligations.IngressBurstOutcome := by
  intro p r s running
  have judged : exec (.ingressBurstJudged p r) s = .next (receiveBurst p r s) :=
    congrArg Host.Outcome.next (whileRunning_running running _)
  rw [judged]
  refine ⟨fun h => by rw [receiveBurst_ignored h], fun he hr => ?_⟩
  rw [receiveBurst_judged he hr, judgeBurst]
  refine ⟨fun h => ?_, fun h => ?_, fun h => ?_, fun b h => ⟨fun room => ?_, fun full => ?_⟩⟩
  · rw [h]; rfl
  · rw [h]; rfl
  · rw [h]; rfl
  · rw [h]; exact congrArg _ (offerToFifo_room room)
  · rw [h]; exact congrArg _ (offerToFifo_full full)

/-! ## The dispatcher's turn (R8, R10, R177) -/

/-- R8: the free dispatcher takes the first burst it finds. -/
theorem exec_dispatchBurst_of_next {p : Fin 4} {b : Burst} {s : State} (h : DispatchesNext s p b) :
    exec .dispatchBurst s = .next (decideBurst p b s) := by
  obtain ⟨running, free, port, head⟩ := h
  refine congrArg Host.Outcome.next ((whileRunning_running running _).trans ?_)
  simp only [dispatch, free, port, head, Option.isNone_none, if_true]

/-- R8: with nothing to take, or while the dispatcher waits, the row changes nothing (log entry 2). -/
theorem exec_dispatchBurst_idle {s : State} (h : s.dispatcher.waiting.isSome = true ∨ nextPort s = none) :
    exec .dispatchBurst s = .next s := by
  have idle : dispatch s = s := by
    rcases h with waits | empty
    · rw [dispatch, Option.isNone_eq_false_iff.mpr waits]
      rfl
    · simp only [dispatch, empty, ite_self]
  exact congrArg Host.Outcome.next (whileRunning_unchanged idle)

theorem nextPort_eq_some_iff (s : State) (p : Fin 4) :
    nextPort s = some p ↔
      s.ingress[p].fifo ≠ [] ∧
        ∀ q : Fin 4, (q - s.dispatcher.pointer).val < (p - s.dispatcher.pointer).val → s.ingress[q].fifo = [] := by
  rw [nextPort, find_roundFrom_eq_some_iff]
  simp

theorem nextPort_eq_none {s : State} (h : ∀ p : Fin 4, s.ingress[p].fifo = []) : nextPort s = none := by
  rw [nextPort, List.find?_eq_none]
  intro p _
  rw [h p]
  simp

theorem finishBurst_dispatcher (p : Fin 4) (s : State) :
    (finishBurst p s).dispatcher = { pointer := p + 1, waiting := none } := by
  rw [← nextIndex_eq_add_one]
  rfl

theorem finishBurst_ingress_same (p : Fin 4) (s : State) :
    (finishBurst p s).ingress[p] = { s.ingress[p] with fifo := s.ingress[p].fifo.tail } :=
  modifyAt_same s.ingress p fun r => { r with fifo := r.fifo.tail }

theorem finishBurst_ingress_other {p q : Fin 4} (s : State) (h : q ≠ p) :
    (finishBurst p s).ingress[q] = s.ingress[q] :=
  modifyAt_other s.ingress p q _ h

theorem finishBurst_permission (p q : Fin 4) (s : State) :
    (finishBurst p s).ingress[q].permission = s.ingress[q].permission := by
  by_cases h : q = p
  · subst h
    rw [finishBurst_ingress_same]
  · rw [finishBurst_ingress_other s h]

theorem intakeRequest_denied {p : Fin 4} {b : Burst} {s : State} (h : s.ingress[p].permission = false) :
    intakeRequest p b s = raise .mgmtDiscard p.val 0 s := by
  rw [intakeRequest, h]
  rfl

theorem intakeRequest_room {p : Fin 4} {b : Burst} {s : State} (h : s.ingress[p].permission = true)
    (room : s.requestQueue.length < 4) :
    intakeRequest p b s = { s with requestQueue := s.requestQueue ++ [b.payload] } := by
  rw [intakeRequest, if_pos h, if_pos (show s.requestQueue.length < Config.requestQueueSize from room)]

theorem intakeRequest_full {p : Fin 4} {b : Burst} {s : State} (h : s.ingress[p].permission = true)
    (full : 4 ≤ s.requestQueue.length) : intakeRequest p b s = raise .mgmtDiscard p.val 1 s := by
  rw [intakeRequest, if_pos h, if_neg (show ¬ s.requestQueue.length < Config.requestQueueSize from Nat.not_lt.mpr full)]
  rfl

theorem decideBurst_request {p : Fin 4} {b : Burst} (s : State) (h : b.kind = .requestBurst) :
    decideBurst p b s = intakeRequest p b (finishBurst p s) := by
  rw [decideBurst, h]

/-- Settles O13: the search round the ports finds the port served; a request burst meets permission, then the queue. -/
theorem dispatcherTakesInTurn : Obligations.DispatcherTakesInTurn := by
  refine ⟨fun s => ⟨nextPort_eq_some_iff s, fun empty => exec_dispatchBurst_idle (.inr (nextPort_eq_none empty)),
    fun waits => exec_dispatchBurst_idle (.inl waits), fun p => ?_⟩, fun p b s taken kind => ?_⟩
  · exact ⟨finishBurst_ingress_same p s, fun q => finishBurst_ingress_other s, finishBurst_dispatcher p s,
      finishBurst_keeps s p⟩
  · rw [exec_dispatchBurst_of_next taken, decideBurst_request s kind]
    rw [← finishBurst_permission p p s]
    refine ⟨fun denied => ?_, fun granted room => ?_, fun granted full => ?_⟩
    · rw [intakeRequest_denied denied]
    · rw [intakeRequest_room granted room, finishBurst_requestQueue]
    · rw [intakeRequest_full granted full]

/-! ## The fate of a media burst (R9, R11, R37) -/

theorem streamOfTag_eq {tag : BitVec 6} {n : Fin 32} (h : tag.toNat = n.val) : streamOfTag tag = n := by
  apply Fin.ext
  show tag.toNat % 32 = n.val
  rw [h, Nat.mod_eq_of_lt n.isLt]

theorem decideBurst_media {p : Fin 4} {b : Burst} (s : State) (h : b.kind.isMedia = true) :
    decideBurst p b s = decideMedia p b s := by
  unfold decideBurst
  cases hk : b.kind with
  | startBurst | bodyBurst | endBurst | singleBurst => rfl
  | abortBurst | requestBurst | replyBurst => rw [hk] at h; cases h

/-- R52: a CLOSING stream that settles goes to OFF; either way it is out of service. -/
theorem inService_settleClosing {n : Fin 32} {s : State} (h : s.contexts[n].state = .closing) :
    inService (settleClosing n s).contexts[n].state = false := by
  unfold settleClosing
  split
  · have off : (modifyContext n (fun c => { c with state := .off }) s).contexts[n].state = .off :=
      congrArg StreamContext.state (modifyAt_same s.contexts n _)
    rw [off]
    rfl
  · rw [h]
    rfl

/-- R51, R52: after the entry to CLOSING the stream is CLOSING, or OFF when nothing holds it; in service it is not. -/
theorem inService_enterClosing (n : Fin 32) (s : State) : inService (enterClosing n s).contexts[n].state = false := by
  have entered : (modifyContext n closingContext s).contexts[n].state = .closing :=
    congrArg StreamContext.state (modifyAt_same s.contexts n closingContext)
  have released := Keeps.forEach (releaseBuffer n) (fun i t => releaseBuffer_keeps n i t) (indexes 8)
    (modifyContext n closingContext s)
  have aborted := released.seq (abortGeneratorOf_keeps n _) (both := [.rings, .live, .latches, .generator]) (by decide)
  have routed := aborted.seq (misrouteWaiting_keeps n _)
    (both := [.rings, .live, .latches, .generator, .ingress, .dispatcher]) (by decide)
  have contexts := routed .contexts (by decide)
  rw [Field.same] at contexts
  rw [enterClosing]
  apply inService_settleClosing
  rw [contexts]
  exact entered

theorem checkEntry_kept {n : Fin 32} {s : State} (h : inService s.contexts[n].state = false ∨ s.entries[n].parityGood = true) :
    checkEntry n s = s := by
  have kept : (inService s.contexts[n].state && !s.entries[n].parityGood) = false := by
    rcases h with h | h
    · rw [h, Bool.false_and]
    · rw [h, Bool.not_true, Bool.and_false]
  rw [checkEntry, kept]
  rfl

theorem checkEntry_fails {n : Fin 32} {s : State} (hs : inService s.contexts[n].state = true)
    (hp : s.entries[n].parityGood = false) : checkEntry n s = entryParityFailure n s := by
  rw [checkEntry, hs, hp]
  exact if_pos rfl

/-- R9 step 3: a stream out of service, or an entry that names another source. -/
theorem routeMedia_misrouted {p : Fin 4} {n : Fin 32} {b : Burst} {s : State}
    (h : inService s.contexts[n].state = false ∨ s.entries[n].fields.source ≠ .ingress p) :
    routeMedia p n b s = misroute p (finishBurst p s) := by
  have refused : ¬(inService s.contexts[n].state && (fieldsOf s n).source == .ingress p) = true := by
    rw [Bool.and_eq_true, beq_iff_eq]
    rintro ⟨service, source⟩
    rcases h with h | h
    · rw [h] at service; cases service
    · exact h source
  rw [routeMedia, if_neg refused]

theorem writeQueueHasRoom_of_lt {s : State} (h : s.writeQueue.length < 16) : writeQueueHasRoom s = true :=
  decide_eq_true h

theorem writeQueueHasRoom_of_le {s : State} (h : 16 ≤ s.writeQueue.length) : writeQueueHasRoom s = false :=
  decide_eq_false (Nat.not_lt.mpr h)

/-- R9 step 4: acceptance where the write queue has room, else the wait. -/
theorem routeMedia_taken {p : Fin 4} {n : Fin 32} {b : Burst} {s : State} (hs : inService s.contexts[n].state = true)
    (source : s.entries[n].fields.source = .ingress p) :
    routeMedia p n b s =
      if s.writeQueue.length < 16 then acceptBurst n b (finishBurst p s)
      else { s with dispatcher := { s.dispatcher with waiting := some p } } := by
  have taken : (inService s.contexts[n].state && (fieldsOf s n).source == .ingress p) = true := by
    rw [Bool.and_eq_true, beq_iff_eq]
    exact ⟨hs, source⟩
  rw [routeMedia, if_pos taken]
  split
  · rename_i room
    rw [if_pos (room_of_writeQueueHasRoom room)]
  · rename_i full
    rw [if_neg fun room => full (writeQueueHasRoom_of_lt room)]

/-- R9: what the decision makes of a media burst of stream `n`, in each case of the rule. -/
theorem decideMedia_cases {p : Fin 4} {b : Burst} {n : Fin 32} (s : State) (tag : b.tag.toNat = n.val) :
    (s.faults.mode = .safe → decideMedia p b s = finishBurst p s) ∧
    (s.faults.mode = .normal → inService s.contexts[n].state = true → s.entries[n].parityGood = false →
      decideMedia p b s = misroute p (finishBurst p (entryParityFailure n s))) ∧
    (s.faults.mode = .normal → inService s.contexts[n].state = false →
      decideMedia p b s = misroute p (finishBurst p s)) ∧
    (s.faults.mode = .normal → inService s.contexts[n].state = true → s.entries[n].parityGood = true →
      s.entries[n].fields.source ≠ .ingress p → decideMedia p b s = misroute p (finishBurst p s)) ∧
    (s.faults.mode = .normal → inService s.contexts[n].state = true → s.entries[n].parityGood = true →
      s.entries[n].fields.source = .ingress p →
      decideMedia p b s =
        if s.writeQueue.length < 16 then acceptBurst n b (finishBurst p s)
        else { s with dispatcher := { s.dispatcher with waiting := some p } }) := by
  have routed (normal : s.faults.mode = .normal) : decideMedia p b s = routeMedia p n b (checkEntry n s) := by
    rw [decideMedia, normal, streamOfTag_eq tag]
    rfl
  refine ⟨fun safe => ?_, fun normal service parity => ?_, fun normal service => ?_,
    fun normal service parity source => ?_, fun normal service parity source => ?_⟩
  · rw [decideMedia, if_pos safe]
  · rw [routed normal, checkEntry_fails service parity]
    exact routeMedia_misrouted (.inl (inService_enterClosing n _))
  · rw [routed normal, checkEntry_kept (.inl service)]
    exact routeMedia_misrouted (.inl service)
  · rw [routed normal, checkEntry_kept (.inr parity)]
    exact routeMedia_misrouted (.inr source)
  · rw [routed normal, checkEntry_kept (.inr parity)]
    exact routeMedia_taken service source

/-- R11: a waiting dispatcher waits on while the write queue is full. -/
theorem exec_waitingBurstAccepted_full {s : State} (full : 16 ≤ s.writeQueue.length) :
    exec .waitingBurstAccepted s = .next s := by
  have waits : retryWaiting s = s := by
    rw [retryWaiting, writeQueueHasRoom_of_le full]
    rfl
  exact congrArg Host.Outcome.next (whileRunning_unchanged waits)

/-- R11: with room in the write queue the burst waited with is decided again, the wait over. -/
theorem exec_waitingBurstAccepted_room {p : Fin 4} {b : Burst} {s : State} (running : s.resetHeld = none)
    (waits : s.dispatcher.waiting = some p) (head : headBurst s p = some b) (media : b.kind.isMedia = true)
    (room : s.writeQueue.length < 16) :
    exec .waitingBurstAccepted s =
      .next (decideMedia p b { s with dispatcher := { s.dispatcher with waiting := none } }) := by
  refine congrArg Host.Outcome.next ((whileRunning_running running _).trans ?_)
  rw [← decideBurst_media _ media, retryWaiting, writeQueueHasRoom_of_lt room]
  simp only [if_true, waits, head]

/-- Settles O14: the cases of the decision, for a burst taken in turn and for the burst waited with. -/
theorem mediaBurstFate : Obligations.MediaBurstFate := by
  refine ⟨fun _ _ => rfl, fun p b n s taken media tag => ?_, fun p b n s running waits head media tag => ?_⟩
  · rw [exec_dispatchBurst_of_next taken, decideBurst_media s media]
    obtain ⟨safe, parity, off, source, accepted⟩ := decideMedia_cases (p := p) s tag
    refine ⟨fun h => by rw [safe h], fun h1 h2 h3 => by rw [parity h1 h2 h3], fun h1 h2 => by rw [off h1 h2],
      fun h1 h2 h3 h4 => by rw [source h1 h2 h3 h4], fun h1 h2 h3 h4 => ⟨fun room => ?_, fun full => ?_⟩, fun _ => rfl⟩
    · rw [accepted h1 h2 h3 h4, if_pos room]
    · rw [accepted h1 h2 h3 h4, if_neg (Nat.not_lt.mpr full)]
  · have again (room : s.writeQueue.length < 16) := exec_waitingBurstAccepted_room running waits head media room
    obtain ⟨safe, parity, off, source, accepted⟩ :=
      decideMedia_cases (p := p) { s with dispatcher := { s.dispatcher with waiting := none } } tag
    refine ⟨exec_waitingBurstAccepted_full, fun room h1 h2 h3 h4 => ?_, fun room h => ?_, fun room h1 h2 => ?_,
      fun room h1 h2 h3 h4 => ?_, fun room h1 h2 h3 => ?_⟩
    · rw [again room, accepted h1 h2 h3 h4, if_pos room]
      rfl
    · rw [again room, safe h]
      rfl
    · rw [again room, off h1 h2]
      rfl
    · rw [again room, source h1 h2 h3 h4]
      rfl
    · rw [again room, parity h1 h2 h3]

end Sys2Proof.Machine
end

section
/-! PROOFS. The egress ports (R14 to R17, R119 to R121, R123, R182, R185, R187). -/

namespace Sys2Proof.Machine

/-! ## The header words (R187) -/

/-- R187: reading back the seven fields that are placed one after another in header word 0. -/
theorem fields_of_word0 (tag : BitVec 6) (kind : BitVec 4) (r s m : Bool) (length : BitVec 7) (index : BitVec 12) :
    let w := tag ++ kind ++ BitVec.ofBool r ++ BitVec.ofBool s ++ BitVec.ofBool m ++ length ++ index
    w.extractLsb' 26 6 = tag ∧ w.extractLsb' 22 4 = kind ∧ w.getLsbD 21 = r ∧ w.getLsbD 20 = s ∧ w.getLsbD 19 = m ∧
      w.extractLsb' 12 7 = length ∧ w.extractLsb' 0 12 = index := by
  refine ⟨?_, ?_, ?_, ?_, ?_, ?_, BitVec.extractLsb'_append_eq_right⟩
  case refine_3 | refine_4 | refine_5 =>
    simp only [BitVec.getLsbD_append]
    simp
  · iterate 6 rw [BitVec.extractLsb'_append_eq_of_le (by decide)]
    exact BitVec.extractLsb'_eq_self
  · iterate 5 rw [BitVec.extractLsb'_append_eq_of_le (by decide)]
    exact BitVec.extractLsb'_append_eq_right
  · rw [BitVec.extractLsb'_append_eq_of_le (by decide)]
    exact BitVec.extractLsb'_append_eq_right

theorem headerWords_fields (b : Burst) : ∃ w0 w1, headerWords b = [w0, w1] ∧
    w0.extractLsb' 26 6 = b.tag ∧ w0.extractLsb' 22 4 = codeOfKind b.kind ∧
    w0.getLsbD 21 = b.repeatFlag ∧ w0.getLsbD 20 = b.substFlag ∧ w0.getLsbD 19 = b.mediaErrFlag ∧
    w0.extractLsb' 12 7 = BitVec.ofNat 7 b.payload.length ∧ w0.extractLsb' 0 12 = BitVec.ofNat 12 b.index ∧
    w1.extractLsb' 16 16 = b.frameNumber ∧ w1.extractLsb' 0 16 = 0#16 := by
  obtain ⟨tag, kind, rep, subst, media, length, index⟩ :=
    fields_of_word0 b.tag (codeOfKind b.kind) b.repeatFlag b.substFlag b.mediaErrFlag (BitVec.ofNat 7 b.payload.length)
      (BitVec.ofNat 12 b.index)
  exact ⟨_, _, rfl, tag, kind, rep, subst, media, length, index, BitVec.extractLsb'_append_eq_left,
    BitVec.extractLsb'_append_eq_right⟩

/-! ## The participants (R14, R15, R119) -/

theorem slotOfPosition_castSucc (k : Fin 16) : slotOfPosition k.castSucc = some k := by
  revert k
  decide

theorem slotOfPosition_last : slotOfPosition 16 = none := by decide

theorem nextParticipant_eq_some_iff (s : State) (p : Fin 4) (i : Fin 17) :
    nextParticipant s p = some i ↔
      positionReady s p i = true ∧
        ∀ j : Fin 17, (j - (s.egress[p].pointer + 1)).val < (i - (s.egress[p].pointer + 1)).val →
          positionReady s p j = false := by
  rw [nextParticipant, find_roundFrom_eq_some_iff, nextIndex_eq_add_one]

theorem replyInTransmission_eq_false_iff (s : State) :
    replyInTransmission s = false ↔ ∀ q : Fin 4, ∀ t, s.egress[q].sending = some t → t.participant ≠ .reply := by
  rw [replyInTransmission, List.any_eq_false]
  constructor
  · intro h q t ht isReply
    have := h s.egress[q] (by simp)
    rw [ht] at this
    simp [isReply] at this
  · intro h port hport
    obtain ⟨i, hi, rfl⟩ := Vector.mem_iff_getElem.mp (Vector.mem_toList_iff.mp hport)
    cases ht : s.egress[i].sending with
    | none => simp
    | some t =>
      have := h ⟨i, hi⟩ t ht
      simp [this]

theorem replyReady_iff (s : State) (p : Fin 4) :
    replyReady s p = true ↔
      s.replyPort = p ∧ s.replyQueue ≠ [] ∧
        ∀ q : Fin 4, ∀ t, s.egress[q].sending = some t → t.participant ≠ .reply := by
  rw [← replyInTransmission_eq_false_iff, replyReady]
  simp [and_assoc]

theorem positionReady_reply (s : State) (p : Fin 4) : positionReady s p 16 = replyReady s p := by
  rw [positionReady, slotOfPosition_last]

/-- R14: a slot's position is ready exactly when the slot has a burst for the port. -/
theorem positionReady_slot (s : State) (p : Fin 4) (k : Fin 16) :
    positionReady s p k.castSucc = (readyBurst s.emissions[k] k p).isSome := by
  rw [positionReady, slotOfPosition_castSucc]
  show slotReady s k p = _
  unfold slotReady readyBurst
  cases h : s.emissions[k].aborts[p] with
  | some a => rfl
  | none =>
    rw [Option.isSome_map]
    rfl

/-! ## What a position offers (R16, R120, R123) -/

theorem burstAt_slot (s : State) (p : Fin 4) (k : Fin 16) :
    burstAt s p k.castSucc = readyBurst s.emissions[k] k p := by
  rw [burstAt, slotOfPosition_castSucc]

theorem burstAt_reply {s : State} {r : Reply} {rest : List Reply} (p : Fin 4) (h : s.replyQueue = r :: rest) :
    burstAt s p 16 = some (.reply, replyBurst r) := by
  rw [burstAt, slotOfPosition_last, h]
  rfl

theorem readyBurst_abort {u : EmissionUnit} {p : Fin 4} {a : AbortRecord} (k : Fin 16) (h : u.aborts[p] = some a) :
    readyBurst u k p = some (.slotAbort k, burstOfAbort a) := by
  rw [readyBurst, h]

theorem readyBurst_entry {u : EmissionUnit} {p : Fin 4} (k : Fin 16) (h : u.aborts[p] = none) :
    readyBurst u k p = (readyEntry u p).map fun e => (.slotEntry k, burstOfBlock u.record e) := by
  rw [readyBurst, h]

/-- R119: what a slot offers names the slot, and is an abort exactly where the slot has an abort record for the port. -/
theorem readyBurst_participant {u : EmissionUnit} {k : Fin 16} {p : Fin 4} {from_ : Participant} {b : Burst}
    (h : readyBurst u k p = some (from_, b)) :
    (from_ = .slotAbort k ∧ u.aborts[p].isSome = true) ∨ (from_ = .slotEntry k ∧ u.aborts[p] = none) := by
  cases ha : u.aborts[p] with
  | some a =>
    rw [readyBurst_abort k ha] at h
    cases h
    exact .inl ⟨rfl, rfl⟩
  | none =>
    rw [readyBurst_entry k ha, Option.map_eq_some_iff] at h
    obtain ⟨e, _, he⟩ := h
    cases he
    exact .inr ⟨rfl, rfl⟩

/-! ## Taking a burst (R119) -/

/-- Two changes of one entry are one change. -/
theorem modifyAt_modifyAt {α : Type} {n : Nat} (v : Vector α n) (i : Fin n) (f g : α → α) :
    modifyAt (modifyAt v i f) i g = v.set i (g (f v[i])) := by
  have read : (modifyAt v i f)[i] = f v[i] := modifyAt_same v i f
  rw [modifyAt, read, modifyAt, Vector.set_set]

/-- R119: of the FIFO's entries the first HELD one of the active emission is marked. -/
theorem markTransmission_append (p : Fin 4) (before after : List BlockEntry) (e : BlockEntry)
    (skipped : ∀ x ∈ before, x.state ≠ .held ∨ x.owner ≠ .activeEmission) (held : e.state = .held)
    (active : e.owner = .activeEmission) :
    markTransmission p (before ++ e :: after) = before ++ { e with state := .inTransmission p } :: after := by
  induction before with
  | nil => exact if_pos ⟨held, active⟩
  | cons x rest ih =>
    have hx : ¬(x.state = .held ∧ x.owner = .activeEmission) :=
      not_and_or.mpr (skipped x List.mem_cons_self)
    rw [List.cons_append, markTransmission, if_neg hx, ih fun y hy => skipped y (List.mem_cons_of_mem x hy)]
    rfl

theorem takenFrom_abort {p : Fin 4} {u : EmissionUnit} (h : u.aborts[p].isSome = true) :
    takenFrom p u = { u with aborts := u.aborts.set p none } := if_pos h

theorem takenFrom_entry {p : Fin 4} {u : EmissionUnit} (h : u.aborts[p] = none) :
    takenFrom p u = { u with fifo := markTransmission p u.fifo } := by
  rw [takenFrom, h]
  rfl

theorem takeBurst_slot (p : Fin 4) (k : Fin 16) (s : State) :
    takeBurst p k.castSucc s =
      { s with
        egress := s.egress.set p { s.egress[p] with pointer := k.castSucc }
        emissions := s.emissions.set k (takenFrom p s.emissions[k]) } := by
  rw [takeBurst, slotOfPosition_castSucc]
  rfl

theorem takeBurst_reply (p : Fin 4) (s : State) :
    takeBurst p 16 s = { s with egress := s.egress.set p { s.egress[p] with pointer := 16 } } := by
  rw [takeBurst, slotOfPosition_last]
  rfl

/-- A position is a slot's or the reply queue's. -/
theorem position_cases (i : Fin 17) : (∃ k : Fin 16, i = k.castSucc) ∨ i = 16 := by
  cases i using Fin.lastCases with
  | last => exact .inr rfl
  | cast k => exact .inl ⟨k, rfl⟩

theorem takeBurst_egress (p : Fin 4) (i : Fin 17) (s : State) :
    (takeBurst p i s).egress = modifyAt s.egress p fun q => { q with pointer := i } := by
  rcases position_cases i with ⟨k, rfl⟩ | rfl
  · rw [takeBurst_slot]
    rfl
  · rw [takeBurst_reply]
    rfl

/-- R119: what a grant leaves of the emissions, by what the burst granted comes from. -/
theorem takeBurst_emissions {p : Fin 4} {i : Fin 17} {s : State} {from_ : Participant} {b : Burst}
    (h : burstAt s p i = some (from_, b)) :
    (∀ k : Fin 16, from_ = .slotAbort k →
      (takeBurst p i s).emissions =
        s.emissions.set k { s.emissions[k] with aborts := s.emissions[k].aborts.set p none }) ∧
    (∀ k : Fin 16, from_ = .slotEntry k →
      (takeBurst p i s).emissions =
        s.emissions.set k { s.emissions[k] with fifo := markTransmission p s.emissions[k].fifo }) ∧
    (from_ = .reply → (takeBurst p i s).emissions = s.emissions) := by
  rcases position_cases i with ⟨j, rfl⟩ | rfl
  · rw [burstAt_slot] at h
    rw [takeBurst_slot]
    rcases readyBurst_participant h with ⟨rfl, ha⟩ | ⟨rfl, ha⟩
    · refine ⟨fun k hk => ?_, fun k hk => (nomatch hk), fun hk => (nomatch hk)⟩
      cases hk
      rw [takenFrom_abort ha]
    · refine ⟨fun k hk => (nomatch hk), fun k hk => ?_, fun hk => (nomatch hk)⟩
      cases hk
      rw [takenFrom_entry ha]
  · have fromReply : from_ = .reply := by
      rw [burstAt, slotOfPosition_last] at h
      obtain ⟨r, _, hr⟩ := Option.map_eq_some_iff.mp h
      exact (congrArg Prod.fst hr).symm
    rw [takeBurst_reply, fromReply]
    exact ⟨fun k hk => (nomatch hk), fun k hk => (nomatch hk), fun _ => rfl⟩

/-! ## EGRESS_GRANT (R15 to R17) -/

theorem startSending_egress (p : Fin 4) (from_ : Participant) (b : Burst) (s : State) :
    (startSending p from_ b s).egress =
      modifyAt s.egress p fun q => { q with sending := some (transmission from_ b q.bitOrder) } := rfl

theorem exec_egressGrant_idle {p : Fin 4} {s : State}
    (h : s.egress[p].sending.isSome = true ∨ nextParticipant s p = none) : exec (.egressGrant p) s = .next s := by
  have idle : grantEgress p s = s := by
    rcases h with sending | alone
    · rw [grantEgress, Option.isNone_eq_false_iff.mpr sending]
      rfl
    · simp only [grantEgress, alone, ite_self]
  exact congrArg Host.Outcome.next (whileRunning_unchanged idle)

theorem exec_egressGrant {p : Fin 4} {s : State} {i : Fin 17} {from_ : Participant} {b : Burst}
    (running : s.resetHeld = none) (idle : s.egress[p].sending = none) (next : nextParticipant s p = some i)
    (offered : burstAt s p i = some (from_, b)) :
    exec (.egressGrant p) s = .next
      (if s.egress[p].enabled then startSending p from_ b (takeBurst p i s)
       else burstDone p from_ b (countEgress p .discardedBursts (takeBurst p i s))) := by
  refine congrArg Host.Outcome.next ((whileRunning_running running _).trans ?_)
  simp only [grantEgress, idle, next, offered, Option.isNone_none, if_true]
  rfl

/-! ## The completion of a burst (R16, R121, R123, R182) -/

theorem burstDone_abort (p : Fin 4) (k : Fin 16) (b : Burst) (s : State) : burstDone p (.slotAbort k) b s = s := rfl

theorem burstDone_reply {s : State} {r : Reply} {rest : List Reply} (p : Fin 4) (b : Burst)
    (h : s.replyQueue = r :: rest) (hr : r.isResetPart = false) :
    burstDone p .reply b s = { s with replyQueue := rest } := by
  simp only [burstDone, replyDone, h, hr, Bool.false_eq_true, if_false]

theorem burstDone_resetPart {s : State} {r : Reply} {rest : List Reply} (p : Fin 4) (b : Burst)
    (h : s.replyQueue = r :: rest) (hr : r.isResetPart = true) :
    burstDone p .reply b s = managementReset { s with replyQueue := rest } := by
  simp only [burstDone, replyDone, h, hr, if_true]

theorem burstDone_entry (p : Fin 4) (k : Fin 16) (b : Burst) (s : State) :
    burstDone p (.slotEntry k) b s = modifyEmission k (blockDone p) (tapSlot k b.kind b.payload s) := rfl

/-- R16: the end marker has been sent: the burst counts, the port is IDLE, and the completion event takes place. -/
theorem exec_egressBurstCompletion {p : Fin 4} {s : State} {t : Sending} (running : s.resetHeld = none)
    (h : s.egress[p].sending = some t) :
    exec (.egressBurstCompletion p) s = .next
      (burstDone p t.participant t.burst
        (countEgress p .sentBursts { s with egress := s.egress.set p { s.egress[p] with sending := none } })) := by
  refine congrArg Host.Outcome.next ((whileRunning_running running _).trans ?_)
  simp only [completeEgress, h]
  rfl

theorem exec_egressBurstCompletion_idle {p : Fin 4} {s : State} (h : s.egress[p].sending = none) :
    exec (.egressBurstCompletion p) s = .next s := by
  have idle : completeEgress p s = s := by simp only [completeEgress, h]
  exact congrArg Host.Outcome.next (whileRunning_unchanged idle)

/-- Settles O40: by what the burst sent came from. -/
theorem egressCompleted : Obligations.EgressCompleted := by
  refine fun p s running => ⟨exec_egressBurstCompletion_idle, fun sending hs => ?_⟩
  have completed := exec_egressBurstCompletion running hs
  refine ⟨fun k hk => ?_, fun r rest hk queue notReset => ?_, fun k hk => ?_, completed⟩
  · rw [completed, hk, burstDone_abort]
  · rw [completed, hk, burstDone_reply p _ (by exact queue) notReset]
  · rw [hk] at completed
    have sent : Keeps [.egress, .live] s
        (countEgress p .sentBursts { s with egress := s.egress.set p { s.egress[p] with sending := none } }) :=
      (modifyEgress_keeps s p fun q => { q with sending := none }).seq (countEgress_keeps _ p .sentBursts) (by decide)
    have finished := burstDone_slot_keeps p k sending.burst
      (countEgress p .sentBursts { s with egress := s.egress.set p { s.egress[p] with sending := none } })
    have tapped := tapSlot_keeps k sending.burst.kind sending.burst.payload
      (countEgress p .sentBursts { s with egress := s.egress.set p { s.egress[p] with sending := none } })
    refine ⟨_, completed, finished .egress (by decide), finished .live (by decide), ?_, sent.seq finished (by decide)⟩
    have emissions := (tapped .emissions (by decide)).trans (sent .emissions (by decide))
    rw [burstDone_entry]
    show modifyAt _ k (blockDone p) = _
    rw [emissions]
    rfl

/-- Settles O39: the search round the positions, what each position offers, and what its grant and its completion take. -/
theorem egressGranted : Obligations.EgressGranted := by
  refine ⟨fun p s running => ⟨exec_egressGrant_idle, nextParticipant_eq_some_iff s p,
      fun i from_ b idle next offered => ⟨fun enabled => ?_, fun disabled => ?_⟩,
      fun r rest queue => burstAt_reply p queue, ?_⟩,
    ⟨fun p k s => ⟨?_, burstAt_slot s p k, fun a ha => ?_, fun ha => ?_⟩, takeBurst_reply, markTransmission_append⟩,
    fun p b s => ⟨fun k => burstDone_abort p k b s,
      fun r rest queue => ⟨burstDone_reply p b queue, burstDone_resetPart p b queue⟩, fun k => burstDone_entry p k b s⟩,
    fun u k p => ⟨fun a ha => readyBurst_abort k ha, fun e ha active port found => ?_, fun ha off => ?_⟩,
    headerWords_fields⟩
  · refine ⟨startSending p from_ b (takeBurst p i s), ?_, ?_, ?_, takeBurst_emissions offered⟩
    · rw [exec_egressGrant running idle next offered, if_pos enabled]
    · rw [startSending_egress, takeBurst_egress, modifyAt_modifyAt]
      rfl
    · exact (takeBurst_keeps p i s).seq (startSending_keeps p from_ b _) (by decide)
  · rw [exec_egressGrant running idle next offered, disabled]
    rfl
  · rw [positionReady_reply]
    exact replyReady_iff s p
  · rw [positionReady_slot]
  · rw [takeBurst_slot, takenFrom_abort (by rw [ha]; rfl)]
  · rw [takeBurst_slot, takenFrom_entry ha]
  · rw [readyBurst_entry k ha, readyEntry, if_pos ⟨active, port⟩, found]
    rfl
  · rw [readyBurst_entry k ha, readyEntry, if_neg (not_and_or.mpr off)]
    rfl

/-! ## ResetPart's reply (R17, R185, R186) -/

theorem FrameMemory.blocks_disturb (m : FrameMemory) (k : Nat) (bits : List Nat) : (m.disturb k bits).blocks = m.blocks := by
  unfold FrameMemory.disturb
  dsimp only
  split
  · rfl
  · rfl

/-- R143: an abandoned write leaves the memory size. -/
theorem FrameMemory.blocks_abandon (m : FrameMemory) (draw a : Nat) (ws : List Word) :
    (m.abandon draw a ws).blocks = m.blocks := by
  unfold FrameMemory.abandon
  refine foldl_keeps (fun acc : FrameMemory => acc.blocks = m.blocks) _ (fun acc k h => ?_) _ _ ?_
  · rw [FrameMemory.blocks_disturb, h]
  · refine foldl_keeps (fun acc : FrameMemory => acc.blocks = m.blocks) _ (fun acc k h => ?_) _ _ rfl
    split
    · exact h
    · exact h

/-- R143, R186: what a reset keeps of frame memory. -/
theorem keptMemory_spec (s : State) :
    (keptMemory s).blocks = s.memory.blocks ∧ (abandonedWrite s = none → keptMemory s = s.memory) ∧
      (∀ a ws, abandonedWrite s = some (a, ws) → LeftByWrite s.memory a ws (keptMemory s)) := by
  unfold keptMemory
  cases h : abandonedWrite s with
  | none => exact ⟨rfl, fun _ => rfl, fun _ _ hw => (nomatch hw)⟩
  | some write =>
    obtain ⟨a, ws⟩ := write
    refine ⟨FrameMemory.blocks_abandon _ _ _ _, fun hw => (nomatch hw), fun a' ws' hw => ?_⟩
    cases hw
    exact FrameMemory.leftByWrite_abandon _ _ _ _

theorem abandonedWrite_congr {s t : State} (ha : t.arbiter = s.arbiter) (hq : t.writeQueue = s.writeQueue)
    (he : t.executor = s.executor) : abandonedWrite t = abandonedWrite s := by
  unfold abandonedWrite
  rw [ha, hq, he]

theorem keptMemory_congr {s t : State} (hw : abandonedWrite t = abandonedWrite s) (hm : t.memory = s.memory)
    (hf : t.freeCount = s.freeCount) : keptMemory t = keptMemory s := by
  unfold keptMemory
  rw [hw, hm, hf]

/-- R185, R186: the management reset after the reply has left: only the egress ports, the counters and the reply queue have
changed since, and of the ports nothing that the reset keeps. -/
theorem afterManagementReset {s t : State} (kept : Keeps [.egress, .live, .replyQueue] s t)
    (ports : ∀ q : Fin 4, keptEgress t.egress[q] = keptEgress s.egress[q]) :
    AfterManagementReset s (managementReset t) := by
  have same (f : Field) (h : f ∉ [Field.egress, .live, .replyQueue]) : f.same s t := kept f h
  have memory : keptMemory t = keptMemory s :=
    keptMemory_congr
      (abandonedWrite_congr (same .arbiter (by decide)) (same .writeQueue (by decide)) (same .executor (by decide)))
      (same .memory (by decide)) (same .freeCount (by decide))
  have ingress : t.ingress = s.ingress := same .ingress (by decide)
  obtain ⟨blocks, untouched, abandoned⟩ := keptMemory_spec s
  have left : (managementReset t).memory = keptMemory s := memory
  refine ⟨?_, fun q => ?_, fun q => ?_, same .replyPort (by decide), rfl, ?_, ?_, ?_, same .pending (by decide),
    same .upsets (by decide), same .timebaseRuns (by decide)⟩
  · intro f hf
    cases f <;> first | rfl | simp at hf
  · show (mapTable keptIngress t.ingress)[q] = _
    rw [mapTable_get, ingress]
    rfl
  · show (mapTable keptEgress t.egress)[q] = _
    rw [mapTable_get, ports]
    rfl
  · rw [left, blocks]
  · rw [left]
    exact untouched
  · rw [left]
    exact abandoned

/-- R17, R18: a port that was given another pointer or became IDLE is kept by the reset as it would have been. -/
theorem keptEgress_modifyAt (v : Vector EgressPort 4) (p : Fin 4) (f : EgressPort → EgressPort)
    (hf : ∀ port, keptEgress (f port) = keptEgress port) (q : Fin 4) : keptEgress (modifyAt v p f)[q] = keptEgress v[q] := by
  rw [modifyAt_get]
  split
  · rename_i h
    rw [hf, h]
  · rfl

/-- Settles O7: sent or discarded, the reply leaves the queue and the reset follows. -/
theorem managementResetAtReply : Obligations.ManagementResetAtReply := by
  refine ⟨fun p s sending r rest running hs isReply queue reset => ?_,
    fun p s r rest running idle disabled next queue reset => ?_⟩
  · have completed := exec_egressBurstCompletion running hs
    rw [isReply, burstDone_resetPart p _ (by exact queue) reset] at completed
    refine ⟨_, completed, afterManagementReset ?_ ?_⟩
    · intro f hf
      cases f <;> first | rfl | simp at hf
    · exact keptEgress_modifyAt s.egress p (fun q => { q with sending := none }) fun _ => rfl
  · have granted := exec_egressGrant running idle next (burstAt_reply p queue)
    rw [disabled, takeBurst_reply, if_neg Bool.false_ne_true, burstDone_resetPart p _ (by exact queue) reset] at granted
    refine ⟨_, granted, afterManagementReset ?_ ?_⟩
    · intro f hf
      cases f <;> first | rfl | simp at hf
    · exact keptEgress_modifyAt s.egress p (fun q => { q with pointer := 16 }) fun _ => rfl

end Sys2Proof.Machine
end

section
/-! PROOFS. The frame of every command (95_what_each_step_holds.md): the fields that its rules let it touch. -/

namespace Sys2Proof.Machine

/-! ## The requests' own rules -/

/-- A request's own rule touches no more than the fields named. -/
def BodyKeeps (touched : List Field) (body : RequestBody) : Prop := ∀ ops s, Keeps touched s (body ops s).1

/-- A request that only reads (R179). -/
theorem bodyKeeps_read (answer : List Word → State → Answer) : BodyKeeps [] fun ops s => (s, answer ops s) :=
  fun _ s => Keeps.refl _ s

theorem bodyKeeps_onStream {touched : List Field} {body : Fin 32 → RequestBody} (hb : ∀ n, BodyKeeps touched (body n)) :
    BodyKeeps touched (onStream body) := by
  intro ops s
  unfold onStream
  split
  · exact Keeps.refl _ s
  · exact hb _ ops s

theorem bodyKeeps_onSlot {touched : List Field} {body : Fin 16 → RequestBody} (hb : ∀ k, BodyKeeps touched (body k)) :
    BodyKeeps touched (onSlot body) := by
  intro ops s
  unfold onSlot
  split
  · exact Keeps.refl _ s
  · exact hb _ ops s

theorem setLatches_keeps (s : State) (latches : Vector Latch 16) : Keeps [.latches] s { s with latches := latches } := by
  intro f hf; cases f <;> first | rfl | simp at hf

theorem setGenerator_keeps (s : State) (g : Generator) : Keeps [.generator] s { s with generator := g } := by
  intro f hf; cases f <;> first | rfl | simp at hf

theorem setChecker_keeps (s : State) (c : Checker) : Keeps [.checker] s { s with checker := c } := by
  intro f hf; cases f <;> first | rfl | simp at hf

theorem writePortSettings_keeps (ops : List Word) (s : State) :
    Keeps [.ingress, .egress, .dispatcher, .replyPort] s (writePortSettings ops s) := by
  intro f hf; cases f <;> first | rfl | simp at hf

theorem storeStreamEntry_keeps (n : Fin 32) (stored : StreamFields) (s : State) :
    Keeps [.entries] s (storeStreamEntry n stored s) := by
  intro f hf; cases f <;> first | rfl | simp at hf

theorem takeSnapshot_keeps (clear : Bool) (s : State) : Keeps [.snapshot, .live, .contexts] s (takeSnapshot clear s) := by
  unfold takeSnapshot
  dsimp only
  split
  all_goals intro f hf; cases f <;> first | rfl | simp at hf

/-- R30, R31: a change of the reference unit's parameters or mode. -/
theorem takeReference_keeps (mode : RefMode) (q : RefParams) (s : State) :
    Keeps [.reference, .latches] s (takeReference mode q s) := by
  unfold takeReference
  split
  · exact (modifyReference_keeps s _).mono (by decide)
  · cases mode with
    | free => exact (modifyReference_keeps s _).seq (raiseRefState_keeps _ _) (by decide)
    | follow => exact (modifyReference_keeps s _).seq (raiseRefState_keeps _ _) (by decide)

theorem bodyKeeps_writePorts : BodyKeeps [.ingress, .egress, .dispatcher, .replyPort] bodyWritePorts :=
  fun ops s => checked_keeps _ s _ (writePortSettings_keeps ops s)

theorem bodyKeeps_writeStreamEntry : BodyKeeps [.entries] bodyWriteStreamEntry :=
  bodyKeeps_onStream fun n _ s => checked_keeps _ s _ (storeStreamEntry_keeps n _ s)

theorem bodyKeeps_enableStream :
    BodyKeeps [.contexts, .faults, .ingress, .dispatcher, .generator, .latches] bodyEnableStream := by
  refine bodyKeeps_onStream fun n _ s => ?_
  split
  · exact Keeps.refl _ s
  · split
    · exact checked_keeps _ s _ ((modifyContext_keeps s n _).mono (by decide))
    · exact (majorFault_keeps _ _ _ _ s).mono (by decide)

theorem bodyKeeps_disableStream :
    BodyKeeps [.contexts, .rings, .live, .latches, .generator, .ingress, .dispatcher] bodyDisableStream := by
  refine bodyKeeps_onStream fun n _ s => ?_
  split
  · dsimp only
    exact enterClosing_keeps n s
  · exact Keeps.refl _ s

theorem bodyKeeps_writeRouteEntry : BodyKeeps [.routes] bodyWriteRouteEntry :=
  bodyKeeps_onSlot fun k _ s => checked_keeps _ s _ (modifyRoute_keeps s k _)

theorem bodyKeeps_setReference : BodyKeeps [.reference, .latches] bodySetReference := by
  intro ops s
  unfold bodySetReference
  split
  · exact Keeps.refl _ s
  · exact checked_keeps _ s _ (takeReference_keeps _ _ s)

theorem bodyKeeps_setArbitration :
    BodyKeeps [.arbiter, .faults, .ingress, .dispatcher, .generator, .latches] bodySetArbitration := by
  intro ops s
  unfold bodySetArbitration
  split
  · exact Keeps.refl _ s
  · exact checked_keeps _ s _ ((modifyArbiter_keeps s _).seq (expireRefreshTimer_keeps _) (by decide))

theorem bodyKeeps_memoryRead : BodyKeeps [] bodyMemoryRead := fun _ s => checked_keeps _ s _ (Keeps.refl _ s)

theorem bodyKeeps_memoryWrite : BodyKeeps [] bodyMemoryWrite := fun _ s => checked_keeps _ s _ (Keeps.refl _ s)

theorem bodyKeeps_snapshotCounters : BodyKeeps [.snapshot, .live, .contexts] bodySnapshotCounters := by
  intro ops s
  unfold bodySnapshotCounters
  split
  · exact Keeps.refl _ s
  · exact takeSnapshot_keeps _ s

theorem bodyKeeps_setCounterMode : BodyKeeps [.counterMode] bodySetCounterMode := by
  intro ops s
  unfold bodySetCounterMode
  split
  · exact Keeps.refl _ s
  · intro f hf; cases f <;> first | rfl | simp at hf

theorem bodyKeeps_readEvent : BodyKeeps [.latches] bodyReadEvent := by
  intro ops s
  unfold bodyReadEvent
  split
  · exact Keeps.refl _ s
  · exact setLatches_keeps s _

theorem bodyKeeps_clearFaults : BodyKeeps [.faults] bodyClearFaults := by
  intro _ _ f hf; cases f <;> first | rfl | simp at hf

theorem bodyKeeps_generatorStart : BodyKeeps [.generator] bodyGeneratorStart := by
  intro ops s
  unfold bodyGeneratorStart
  split
  · exact Keeps.refl _ s
  · exact checked_keeps _ s _ (setGenerator_keeps s _)

theorem bodyKeeps_generatorStop : BodyKeeps [.generator] bodyGeneratorStop := by
  intro ops s
  unfold bodyGeneratorStop
  split
  · exact Keeps.refl _ s
  · exact setGenerator_keeps s _

theorem bodyKeeps_checkerSetup : BodyKeeps [.checker] bodyCheckerSetup := by
  intro ops s
  unfold bodyCheckerSetup
  split
  · exact Keeps.refl _ s
  · exact checked_keeps _ s _ (setChecker_keeps s _)

theorem bodyKeeps_checkerSnapshot : BodyKeeps [.checker, .checkerBank] bodyCheckerSnapshot := by
  intro ops s
  unfold bodyCheckerSnapshot
  split
  · exact Keeps.refl _ s
  · intro f hf; cases f <;> first | rfl | simp at hf

theorem runBadRequest_keeps (s : State) : Keeps pathTouches s (runBadRequest s) := by
  unfold runBadRequest
  split
  · exact Keeps.refl _ s
  · split
    · exact (takeRequest_keeps s _).seq (offerReply_keeps _ _) (by decide)
    · exact Keeps.refl _ s

/-! ## The commands -/

/-- R186: while RST_N is low a command touches nothing, else no more than its work does. -/
theorem keeps_of_whileRunning {touched : List Field} {s t : State} {f : State → State} (hf : Keeps touched s (f s))
    (h : Host.Outcome.next (φ := Fault) (ρ := Refusal) (whileRunning s f) = .next t) : Keeps touched s t := by
  injection h with h
  exact h ▸ hf.whileRunning

/-- R179: a request touches what its path touches and what its own rule touches. -/
theorem keeps_of_request {touched : List Field} {code : BitVec 8} {body : RequestBody} {s t : State}
    (hb : BodyKeeps touched body)
    (h : Host.Outcome.next (φ := Fault) (ρ := Refusal) (whileRunning s (runRequest code body)) = .next t) :
    Keeps (pathTouches ++ touched) s t :=
  keeps_of_whileRunning (runRequest_keeps code body hb s) h

theorem keeps_of_writeCompletion {s t : State} (h : execWriteCompletion s = .next t) :
    Keeps (touches .writeCompletion) s t := by
  unfold execWriteCompletion at h
  split at h
  · cases h; exact Keeps.refl _ s
  · split at h
    · cases h; exact Keeps.refl _ s
    · split at h
      · cases h; exact completeWrite_keeps _ _ s
      · cases h

theorem keeps_of_slotReadCompletion {s t : State} (h : execSlotReadCompletion s = .next t) :
    Keeps (touches .slotReadCompletion) s t := by
  unfold execSlotReadCompletion at h
  split at h
  · cases h; exact Keeps.refl _ s
  · split at h
    · cases h; exact Keeps.refl _ s
    · split at h
      · cases h; exact completeSlotRead_keeps _ _ s
      · cases h

theorem keeps_of_managementAccessCompletion {s t : State} (h : execManagementAccessCompletion s = .next t) :
    Keeps (touches .managementAccessCompletion) s t := by
  unfold execManagementAccessCompletion at h
  split at h
  · cases h; exact Keeps.refl _ s
  · split at h
    · cases h; exact Keeps.refl _ s
    · split at h
      · cases h; exact completeManagement_keeps _ s
      · cases h

/-- A command leaves every field that its rules do not let it touch. -/
theorem exec_keeps {c : Instr} {s t : State} (h : exec c s = .next t) : Keeps (touches c) s t := by
  cases c with
  | powerOnReset memsz cells bad => cases h; exact powerOn_keeps memsz _ _ s
  | pinReset memsz => cases h; exact endPinReset_keeps memsz s
  | pinResetBegin => cases h; exact beginPinReset_keeps s
  | ingressBurstJudged p r => exact keeps_of_whileRunning (receiveBurst_keeps p r s) h
  | dispatchBurst => exact keeps_of_whileRunning (dispatch_keeps s) h
  | waitingBurstAccepted => exact keeps_of_whileRunning (retryWaiting_keeps s) h
  | memoryGrant => exact keeps_of_whileRunning (grantMemory_keeps s) h
  | writeCompletion => exact keeps_of_writeCompletion h
  | slotReadCompletion => exact keeps_of_slotReadCompletion h
  | managementAccessCompletion => exact keeps_of_managementAccessCompletion h
  | refreshCompletion => exact keeps_of_whileRunning (completeRefresh_keeps s) h
  | refreshTimerExpiry => exact keeps_of_whileRunning (expireRefreshTimer_keeps s) h
  | refEdge order => exact keeps_of_whileRunning (whileClocked_keeps (seeEdge_keeps order) s) h
  | freePeriodExpiry order => exact keeps_of_whileRunning (whileClocked_keeps (freeExpiry_keeps order) s) h
  | windowClose order => exact keeps_of_whileRunning (whileClocked_keeps (closeWindow_keeps order) s) h
  | searchingFlywheel order => exact keeps_of_whileRunning (whileClocked_keeps (searchFlywheel_keeps order) s) h
  | activityJudgement n => exact keeps_of_whileRunning (judgeActivity_keeps n s) h
  | intervalOverflow n => exact keeps_of_whileRunning (overflowInterval_keeps n s) h
  | holdExpired k => exact keeps_of_whileRunning (expireHold_keeps k s) h
  | generatorFrameStart => exact keeps_of_whileRunning ((startGeneratedFrame_keeps s).mono (by decide)) h
  | generatorBurstTaken => exact keeps_of_whileRunning (takeGenerated_keeps s) h
  | egressGrant p => exact keeps_of_whileRunning (grantEgress_keeps p s) h
  | egressBurstCompletion p => exact keeps_of_whileRunning (completeEgress_keeps p s) h
  | replySpaceFreed => exact keeps_of_whileRunning (queueWaitingReply_keeps s) h
  | badRequest => exact keeps_of_whileRunning (runBadRequest_keeps s) h
  | writePorts => exact keeps_of_request bodyKeeps_writePorts h
  | writeStreamEntry => exact keeps_of_request bodyKeeps_writeStreamEntry h
  | enableStream => exact keeps_of_request bodyKeeps_enableStream h
  | disableStream => exact keeps_of_request bodyKeeps_disableStream h
  | writeRouteEntry => exact keeps_of_request bodyKeeps_writeRouteEntry h
  | setReference => exact keeps_of_request bodyKeeps_setReference h
  | setArbitration => exact keeps_of_request bodyKeeps_setArbitration h
  | memoryRead => exact keeps_of_request bodyKeeps_memoryRead h
  | memoryWrite => exact keeps_of_request bodyKeeps_memoryWrite h
  | snapshotCounters => exact keeps_of_request bodyKeeps_snapshotCounters h
  | setCounterMode => exact keeps_of_request bodyKeeps_setCounterMode h
  | readEvent => exact keeps_of_request bodyKeeps_readEvent h
  | clearEvents | writeEventMask => exact keeps_of_request (fun _ s => setLatches_keeps s _) h
  | clearFaults => exact keeps_of_request bodyKeeps_clearFaults h
  | generatorStart => exact keeps_of_request bodyKeeps_generatorStart h
  | generatorStop => exact keeps_of_request bodyKeeps_generatorStop h
  | checkerSetup => exact keeps_of_request bodyKeeps_checkerSetup h
  | checkerSnapshot => exact keeps_of_request bodyKeeps_checkerSnapshot h
  | readStreamEntry | readStreamStatus | readRingStatus =>
    exact keeps_of_request (bodyKeeps_onStream fun _ => bodyKeeps_read _) h
  | readRouteEntry | readSlotStatus => exact keeps_of_request (bodyKeeps_onSlot fun _ => bodyKeeps_read _) h
  | readIdentity | resetPart | readPorts | readReference | readArbitration | readCounters | readEventState
  | readFaultRecord | readTestStatus => exact keeps_of_request (bodyKeeps_read _) h

end Sys2Proof.Machine
end

section
/-! PROOFS. The rows of the reference unit (R19 to R30): what each does to it, and the law of its state, which every
step keeps (R21, R22). -/

namespace Sys2Proof.Machine

/-! ## A change of the reference unit about a tick -/

/-- R20: what a row does to the reference unit after its tick starts from the unit with the tick number advanced. -/
theorem modifyReference_makeTick (f : Reference → Reference) (order : List TickWork) (s : State) :
    modifyReference f (makeTick order s) =
      { makeTick order s with reference := f { s.reference with tickNumber := s.reference.tickNumber + 1#32 } } := by
  unfold modifyReference
  rw [makeTick_reference]

theorem modifyReference_countReference (f : Reference → Reference) (c : ReferenceCounter) (s : State) :
    modifyReference f (countReference c s) = countReference c (modifyReference f s) := rfl

/-! ## When a row is due (R22, R24, R25) -/

theorem freeExpiryDue_iff (r : Reference) :
    freeExpiryDue r = true ↔ r.mode = .free ∧ r.params.period ≤ r.periodCounter := by
  simp [freeExpiryDue]

theorem flywheelDue_iff (r : Reference) :
    flywheelDue r = true ↔ r.state = .searching ∧ r.params.period ≤ r.periodCounter := by
  simp [flywheelDue]

theorem followsEdges_iff (st : RefState) : followsEdges st = true ↔ st = .tracking ∨ st = .coasting := by
  cases st <;> decide

theorem windowCloseDue_iff (r : Reference) :
    windowCloseDue r = true ↔
      (r.state = .tracking ∨ r.state = .coasting) ∧ r.params.period + r.params.tolerance ≤ r.periodCounter := by
  simp [windowCloseDue, followsEdges_iff]

/-! ## What each row does -/

theorem freeExpiry_due {s : State} (h : freeExpiryDue s.reference = true) (order : List TickWork) :
    freeExpiry order s =
      { makeTick order s with
        reference := adoptedParams false
          { s.reference with periodCounter := 0, tickNumber := s.reference.tickNumber + 1#32 } } := by
  rw [freeExpiry, if_pos h, modifyReference_makeTick]

theorem freeExpiry_idle {s : State} (h : ¬ freeExpiryDue s.reference = true) (order : List TickWork) :
    freeExpiry order s = s := by
  rw [freeExpiry, if_neg h]

theorem searchFlywheel_due {s : State} (h : flywheelDue s.reference = true) (order : List TickWork) :
    searchFlywheel order s =
      { countReference .flywheelTicks (makeTick order s) with
        reference := adoptedParams false
          { s.reference with periodCounter := 0, tickNumber := s.reference.tickNumber + 1#32 } } := by
  rw [searchFlywheel, if_pos h, modifyReference_countReference, modifyReference_makeTick]
  rfl

theorem searchFlywheel_idle {s : State} (h : ¬ flywheelDue s.reference = true) (order : List TickWork) :
    searchFlywheel order s = s := by
  rw [searchFlywheel, if_neg h]

/-- R24: the reference unit at the close of the window, with the pending parameters not yet adopted. -/
def closedReference (r : Reference) : Reference := closedWindow { r with tickNumber := r.tickNumber + 1#32 }

theorem closedReference_coasts {r : Reference} (h : r.missedRun + 1 < r.params.lossCount) :
    closedReference r =
      { r with
        state := .coasting, periodCounter := r.params.tolerance, missedRun := r.missedRun + 1,
        tickNumber := r.tickNumber + 1#32 } :=
  if_pos h

theorem closedReference_searches {r : Reference} (h : r.params.lossCount ≤ r.missedRun + 1) :
    closedReference r =
      { r with
        state := .searching, periodCounter := r.params.tolerance, missedRun := 0, goodRun := 0, edgeCounter := none,
        tickNumber := r.tickNumber + 1#32 } :=
  if_neg (Nat.not_lt.mpr h)

theorem closeWindow_due {s : State} (h : windowCloseDue s.reference = true) (order : List TickWork) :
    closeWindow order s =
      raiseAtClose s.reference.state (closedReference s.reference).state
        { countReference .flywheelTicks (makeTick order s) with
          reference := adoptedParams true (closedReference s.reference) } := by
  have closed : modifyReference closedWindow (countReference .flywheelTicks (makeTick order s)) =
      { countReference .flywheelTicks (makeTick order s) with reference := closedReference s.reference } := by
    rw [modifyReference_countReference, modifyReference_makeTick]
    rfl
  rw [closeWindow, if_pos h]
  simp only [closed]
  unfold raiseAtClose
  split
  · rfl
  · rfl

theorem closeWindow_idle {s : State} (h : ¬ windowCloseDue s.reference = true) (order : List TickWork) :
    closeWindow order s = s := by
  rw [closeWindow, if_neg h]

theorem edgeWhileFollowing_stray {s : State}
    (h : s.reference.periodCounter + s.reference.params.tolerance < s.reference.params.period) (order : List TickWork) :
    edgeWhileFollowing order s = countReference .strayEdges s :=
  if_pos h

/-- The part after an edge in window, REF_STATE apart (R23, R30). -/
def tickedInWindow (order : List TickWork) (s : State) : State :=
  { makeTick order s with
    reference := adoptedParams false
      { s.reference with
        periodCounter := 0, missedRun := 0, state := .tracking, tickNumber := s.reference.tickNumber + 1#32 } }

theorem edgeInWindow_eq (order : List TickWork) (s : State) :
    edgeInWindow order s =
      if s.reference.state = .coasting then raiseRefState .tracking (tickedInWindow order s) else tickedInWindow order s := by
  simp only [edgeInWindow, modifyReference_makeTick, tickedInWindow]

theorem edgeWhileFollowing_inWindow {s : State}
    (low : s.reference.params.period ≤ s.reference.periodCounter + s.reference.params.tolerance)
    (high : s.reference.periodCounter ≤ s.reference.params.period + s.reference.params.tolerance)
    (order : List TickWork) : edgeWhileFollowing order s = edgeInWindow order s := by
  unfold edgeWhileFollowing
  rw [if_neg (Nat.not_lt.mpr low), if_pos high]

/-- R23: an edge in TRACKING or COASTING is stray, in window, or above the window, where it is ignored (log entry 23). -/
theorem edgeWhileFollowing_cases (order : List TickWork) (s : State) :
    edgeWhileFollowing order s = countReference .strayEdges s ∨ edgeWhileFollowing order s = edgeInWindow order s ∨
      edgeWhileFollowing order s = s := by
  unfold edgeWhileFollowing
  dsimp only
  split
  · exact Or.inl rfl
  · split
    · exact Or.inr (Or.inl rfl)
    · exact Or.inr (Or.inr rfl)

/-- R27: the regain with a tick, at c of at least half of P. -/
theorem regain_ticks {s : State} (h : s.reference.params.period ≤ 2 * s.reference.periodCounter) (order : List TickWork) :
    regain order s =
      { makeTick order (raiseRefState .tracking (modifyReference regained s)) with
        reference := adoptedParams false
          { regained s.reference with periodCounter := 0, tickNumber := s.reference.tickNumber + 1#32 } } := by
  unfold regain
  rw [if_pos h, modifyReference_makeTick]
  rfl

/-- R27: the regain without a tick. -/
theorem regain_silent {s : State} (h : 2 * s.reference.periodCounter < s.reference.params.period) (order : List TickWork) :
    regain order s =
      raiseRefState .tracking { s with reference := { regained s.reference with periodCounter := 0 } } := by
  unfold regain
  rw [if_neg (Nat.not_le.mpr h)]
  rfl

/-! ## The adoption of pending parameters (R30) -/

theorem adoptedParams_absent {r : Reference} (h : r.pendingParams = none) (toTolerance : Bool) :
    adoptedParams toTolerance r = r := by
  unfold adoptedParams
  rw [h]

theorem adoptedParams_pending {r : Reference} {q : RefParams} (h : r.pendingParams = some q) (toTolerance : Bool) :
    adoptedParams toTolerance r =
      { r with
        params := q
        pendingParams := none
        periodCounter := if toTolerance then q.tolerance else r.periodCounter
        edgeCounter := r.edgeCounter.map (recappedEdge r.params q) } := by
  unfold adoptedParams
  rw [h]

/-- The adoption leaves mode, state and both runs, and e absent where it was. -/
theorem adoptedParams_frame (toTolerance : Bool) (r : Reference) :
    (adoptedParams toTolerance r).mode = r.mode ∧ (adoptedParams toTolerance r).state = r.state ∧
      (adoptedParams toTolerance r).missedRun = r.missedRun ∧ (adoptedParams toTolerance r).goodRun = r.goodRun ∧
      (r.edgeCounter = none → (adoptedParams toTolerance r).edgeCounter = none) := by
  cases h : r.pendingParams with
  | none =>
    rw [adoptedParams_absent h]
    exact ⟨rfl, rfl, rfl, rfl, id⟩
  | some q =>
    rw [adoptedParams_pending h]
    exact ⟨rfl, rfl, rfl, rfl, fun absent => by rw [absent]; rfl⟩

/-! ## The law of the reference unit (R21, R22) -/

/-- In FOLLOW mode the law asks only that the state is not FREE. -/
theorem referenceLawful_of_follow {r : Reference} (mode : r.mode ≠ .free) (state : r.state ≠ .free) : ReferenceLawful r :=
  ⟨⟨fun h => absurd h mode, fun h => absurd h state⟩, fun h => absurd h mode⟩

theorem ReferenceLawful.mode_ne_free {r : Reference} (hr : ReferenceLawful r) (h : r.state ≠ .free) : r.mode ≠ .free :=
  fun hm => h (hr.1.mp hm)

/-- The law looks at mode, state, e and the runs alone. -/
theorem ReferenceLawful.of_kept {r q : Reference} (hr : ReferenceLawful r) (mode : q.mode = r.mode)
    (state : q.state = r.state) (missed : q.missedRun = r.missedRun) (good : q.goodRun = r.goodRun)
    (edge : r.edgeCounter = none → q.edgeCounter = none) : ReferenceLawful q := by
  obtain ⟨same, quiet⟩ := hr
  refine ⟨by rw [mode, state]; exact same, fun h => ?_⟩
  obtain ⟨absent, missed0, good0⟩ := quiet (mode ▸ h)
  exact ⟨edge absent, missed.trans missed0, good.trans good0⟩

theorem ReferenceLawful.adoptedParams {r : Reference} (hr : ReferenceLawful r) (toTolerance : Bool) :
    ReferenceLawful (adoptedParams toTolerance r) := by
  obtain ⟨mode, state, missed, good, edge⟩ := adoptedParams_frame toTolerance r
  exact hr.of_kept mode state missed good edge

/-- A tick and the start of a new period leave the law. -/
theorem ReferenceLawful.newPeriod {r : Reference} (hr : ReferenceLawful r) (c : Nat) (tick : BitVec 32) :
    ReferenceLawful { r with periodCounter := c, tickNumber := tick } := hr

theorem ReferenceLawful.freeExpiry {s : State} (hs : ReferenceLawful s.reference) (order : List TickWork) :
    ReferenceLawful (freeExpiry order s).reference := by
  by_cases due : freeExpiryDue s.reference = true
  · rw [freeExpiry_due due]
    exact (hs.newPeriod _ _).adoptedParams false
  · rwa [freeExpiry_idle due]

theorem ReferenceLawful.searchFlywheel {s : State} (hs : ReferenceLawful s.reference) (order : List TickWork) :
    ReferenceLawful (searchFlywheel order s).reference := by
  by_cases due : flywheelDue s.reference = true
  · rw [searchFlywheel_due due]
    exact (hs.newPeriod _ _).adoptedParams false
  · rwa [searchFlywheel_idle due]

/-- R24, R25: a window closes in FOLLOW mode, and the unit then coasts or searches. -/
theorem ReferenceLawful.closedReference {r : Reference} (hr : ReferenceLawful r) (h : r.state ≠ .free) :
    ReferenceLawful (closedReference r) := by
  rcases Nat.lt_or_ge (r.missedRun + 1) r.params.lossCount with coasts | searches
  · rw [closedReference_coasts coasts]
    exact referenceLawful_of_follow (hr.mode_ne_free h) nofun
  · rw [closedReference_searches searches]
    exact referenceLawful_of_follow (hr.mode_ne_free h) nofun

theorem raiseAtClose_reference (before after : RefState) (s : State) :
    (raiseAtClose before after s).reference = s.reference :=
  raiseAtClose_keeps before after s .reference (by decide)

theorem ReferenceLawful.closeWindow {s : State} (hs : ReferenceLawful s.reference) (order : List TickWork) :
    ReferenceLawful (closeWindow order s).reference := by
  by_cases due : windowCloseDue s.reference = true
  · rw [closeWindow_due due, raiseAtClose_reference]
    obtain ⟨following, _⟩ := (windowCloseDue_iff _).mp due
    have state : s.reference.state ≠ .free := by
      rcases following with h | h <;> rw [h] <;> decide
    exact (hs.closedReference state).adoptedParams true
  · rwa [closeWindow_idle due]

/-- R23: an edge in window is met in FOLLOW mode and makes the unit TRACKING. -/
theorem ReferenceLawful.edgeWhileFollowing {s : State} (hs : ReferenceLawful s.reference) (h : s.reference.state ≠ .free)
    (order : List TickWork) : ReferenceLawful (edgeWhileFollowing order s).reference := by
  have ticked : ReferenceLawful (tickedInWindow order s).reference := by
    apply ReferenceLawful.adoptedParams
    exact referenceLawful_of_follow (hs.mode_ne_free h) nofun
  rcases edgeWhileFollowing_cases order s with stray | inWindow | above
  · rw [stray]
    exact hs
  · rw [inWindow, edgeInWindow_eq]
    split
    · exact ticked
    · exact ticked
  · rwa [above]

/-- R26, R27: an edge in SEARCHING leaves the unit SEARCHING, or regains REF and makes it TRACKING, in FOLLOW mode. -/
theorem ReferenceLawful.edgeWhileSearching {s : State} (hs : ReferenceLawful s.reference) (h : s.reference.state ≠ .free)
    (order : List TickWork) : ReferenceLawful (edgeWhileSearching order s).reference := by
  have mode := hs.mode_ne_free h
  unfold Machine.edgeWhileSearching
  split
  · rcases Nat.lt_or_ge (2 * s.reference.periodCounter) s.reference.params.period with silent | ticks
    · rw [regain_silent silent]
      exact referenceLawful_of_follow mode nofun
    · rw [regain_ticks ticks]
      apply ReferenceLawful.adoptedParams
      exact referenceLawful_of_follow mode nofun
  · exact referenceLawful_of_follow mode h

theorem ReferenceLawful.seeEdge {s : State} (hs : ReferenceLawful s.reference) (order : List TickWork) :
    ReferenceLawful (seeEdge order s).reference := by
  unfold Machine.seeEdge
  split
  · exact hs
  · rename_i tracking
    exact hs.edgeWhileFollowing (by rw [tracking]; decide) order
  · rename_i coasting
    exact hs.edgeWhileFollowing (by rw [coasting]; decide) order
  · rename_i searching
    exact hs.edgeWhileSearching (by rw [searching]; decide) order

/-! ## The other commands that change the reference unit (R31, R186) -/

theorem referenceLawful_reset : ReferenceLawful State.reset.reference :=
  ⟨⟨fun _ => rfl, fun _ => rfl⟩, fun _ => ⟨rfl, rfl, rfl⟩⟩

theorem referenceLawful_beginPinReset {s : State} (hs : ReferenceLawful s.reference) :
    ReferenceLawful (beginPinReset s).reference := by
  unfold beginPinReset
  split
  · exact hs
  · exact referenceLawful_reset

/-- R182, R185: the completion of a reply leaves the reference unit, or resets it. -/
theorem ReferenceLawful.replyDone {s : State} (hs : ReferenceLawful s.reference) : ReferenceLawful (replyDone s).reference := by
  unfold Machine.replyDone
  split
  · exact hs
  · split
    · exact referenceLawful_reset
    · exact hs

theorem ReferenceLawful.of_apart {touched : List Field} {s t : State} (hs : ReferenceLawful s.reference)
    (hk : Keeps touched s t) (h : Field.reference ∉ touched) : ReferenceLawful t.reference := by
  rwa [show t.reference = s.reference from hk .reference h]

theorem ReferenceLawful.burstDone {s : State} (hs : ReferenceLawful s.reference) (p : Fin 4) (from_ : Participant)
    (b : Burst) : ReferenceLawful (burstDone p from_ b s).reference := by
  cases from_ with
  | slotEntry k => exact hs.of_apart (burstDone_slot_keeps p k b s) (by decide)
  | slotAbort k => exact hs
  | reply => exact hs.replyDone

theorem ReferenceLawful.grantEgress {s : State} (hs : ReferenceLawful s.reference) (p : Fin 4) :
    ReferenceLawful (grantEgress p s).reference := by
  have taken (i : Fin 17) : ReferenceLawful (takeBurst p i s).reference := hs.of_apart (takeBurst_keeps p i s) (by decide)
  unfold Machine.grantEgress
  split
  · split
    · exact hs
    · split
      · exact hs
      · split
        · exact (taken _).of_apart (startSending_keeps p _ _ _) (by decide)
        · exact ((taken _).of_apart (countEgress_keeps _ p _) (by decide)).burstDone p _ _
  · exact hs

theorem ReferenceLawful.completeEgress {s : State} (hs : ReferenceLawful s.reference) (p : Fin 4) :
    ReferenceLawful (completeEgress p s).reference := by
  unfold Machine.completeEgress
  split
  · exact hs
  · exact ((hs.of_apart (modifyEgress_keeps s p _) (by decide)).of_apart (countEgress_keeps _ p _) (by decide)).burstDone
      p _ _

/-- R30, R31: the mode in force keeps its law; a change of mode enters SEARCHING or FREE with e absent and both runs 0. -/
theorem ReferenceLawful.takeReference {s : State} (hs : ReferenceLawful s.reference) (mode : RefMode) (q : RefParams) :
    ReferenceLawful (takeReference mode q s).reference := by
  unfold Machine.takeReference
  split
  · exact hs
  · cases mode with
    | free => exact ⟨⟨fun _ => rfl, fun _ => rfl⟩, fun _ => ⟨rfl, rfl, rfl⟩⟩
    | follow => exact referenceLawful_of_follow nofun nofun

theorem ReferenceLawful.setReference {s : State} (hs : ReferenceLawful s.reference) :
    ReferenceLawful (runRequest 0x0F#8 bodySetReference s).reference := by
  have body (ops : List Word) (u : State) (hu : ReferenceLawful u.reference) :
      ReferenceLawful (bodySetReference ops u).1.reference := by
    unfold bodySetReference
    split
    · exact hu
    · rename_i mode _
      rcases checked_cases (refChecks (refParamsOf ops)) u (Machine.takeReference mode (refParamsOf ops) u, .ok [])
        with good | ⟨a, _, bad⟩
      · rw [good]
        exact hu.takeReference mode _
      · rw [bad]
        exact hu
  rcases runRequest_cases 0x0F#8 bodySetReference s with same | ⟨p, rest, _, run⟩
  · rwa [same]
  · rw [run]
    exact (body _ _ (show ReferenceLawful (takeRequest rest s).reference from hs)).of_apart (answerRequest_keeps p _ _)
      (by decide)

/-! ## Commands and steps -/

theorem referenceLawful_of_whileRunning {s t : State} {f : State → State} (hs : ReferenceLawful s.reference)
    (hf : ReferenceLawful (f s).reference)
    (h : Host.Outcome.next (φ := Fault) (ρ := Refusal) (whileRunning s f) = .next t) : ReferenceLawful t.reference := by
  injection h with h
  rw [← h]
  unfold whileRunning
  split
  · exact hs
  · exact hf

theorem ReferenceLawful.whileClocked {s : State} (hs : ReferenceLawful s.reference) {f : State → State}
    (hf : ReferenceLawful (f s).reference) : ReferenceLawful (whileClocked f s).reference := by
  unfold Machine.whileClocked
  split
  · exact hf
  · exact hs

/-- The law at each command that can touch the reference unit; every other command leaves the unit. -/
theorem referenceLawful_exec (c : Instr) (s t : State) (hs : ReferenceLawful s.reference) (h : exec c s = .next t) :
    ReferenceLawful t.reference := by
  by_cases touched : Field.reference ∈ touches c
  · cases c with
    | powerOnReset memsz cells bad => cases h; exact referenceLawful_reset
    | pinReset memsz => cases h; exact referenceLawful_reset
    | pinResetBegin => cases h; exact referenceLawful_beginPinReset hs
    | refEdge order => exact referenceLawful_of_whileRunning hs (hs.whileClocked (hs.seeEdge order)) h
    | freePeriodExpiry order => exact referenceLawful_of_whileRunning hs (hs.whileClocked (hs.freeExpiry order)) h
    | windowClose order => exact referenceLawful_of_whileRunning hs (hs.whileClocked (hs.closeWindow order)) h
    | searchingFlywheel order =>
      exact referenceLawful_of_whileRunning hs (hs.whileClocked (hs.searchFlywheel order)) h
    | egressGrant p => exact referenceLawful_of_whileRunning hs (hs.grantEgress p) h
    | egressBurstCompletion p => exact referenceLawful_of_whileRunning hs (hs.completeEgress p) h
    | setReference => exact referenceLawful_of_whileRunning hs hs.setReference h
    | _ => simp [touches] at touched
  · exact hs.of_apart (exec_keeps h) touched

/-- R22, R26: a timebase unit counts c and e, and starts no run. -/
theorem referenceLawful_timeUnit (s : State) (hs : ReferenceLawful s.reference) :
    ReferenceLawful (timeUnit s).reference := by
  have counted : ReferenceLawful (countUnit s).reference := by
    refine hs.of_kept rfl rfl rfl rfl fun absent => ?_
    show s.reference.edgeCounter.map _ = none
    rw [absent]
    rfl
  exact (hs.whileClocked counted).of_apart (takeUpset_keeps _) (by decide)

/-- Settles O59: every command, and a timebase unit, keeps the law of the reference unit. -/
theorem referenceStaysLawful : Obligations.ReferenceStaysLawful :=
  keptByStep_of (fun _ _ hs => hs) referenceLawful_exec referenceLawful_timeUnit

end Sys2Proof.Machine
end

section
/-! PROOFS. The tick and the rows of the reference unit (R19 to R30, R47, R87, R157). -/

namespace Sys2Proof.Machine

/-! ## The rows while TBCLK runs and while it stands (R19) -/

/-- A command of the reference unit while TBCLK runs and RST_N is high. -/
theorem whileRunning_clocked {s : State} (running : s.resetHeld = none) (clock : s.timebaseRuns = true) (f : State → State) :
    whileRunning s (whileClocked f) = f s := by
  rw [whileRunning_running running, whileClocked_runs clock]

theorem whileRunning_clockless {s : State} (clock : s.timebaseRuns = false) (f : State → State) :
    whileRunning s (whileClocked f) = s :=
  whileRunning_unchanged (whileClocked_stands clock f)

section
variable {s : State} (running : s.resetHeld = none) (clock : s.timebaseRuns = true) (order : List TickWork)
include running clock

theorem exec_freePeriodExpiry : exec (.freePeriodExpiry order) s = .next (freeExpiry order s) :=
  congrArg Host.Outcome.next (whileRunning_clocked running clock _)

theorem exec_searchingFlywheel : exec (.searchingFlywheel order) s = .next (searchFlywheel order s) :=
  congrArg Host.Outcome.next (whileRunning_clocked running clock _)

theorem exec_windowClose : exec (.windowClose order) s = .next (closeWindow order s) :=
  congrArg Host.Outcome.next (whileRunning_clocked running clock _)

theorem exec_refEdge : exec (.refEdge order) s = .next (seeEdge order s) :=
  congrArg Host.Outcome.next (whileRunning_clocked running clock _)

end

/-- Settles O30: each row by whether it is due, and the adoption by whether parameters are pending. -/
theorem periodTicks : Obligations.PeriodTicks := by
  refine ⟨fun order s running clock => ⟨fun mode reached => ?_, fun apart => ?_, fun state reached => ?_, fun apart => ?_⟩,
    fun order s clock => ?_, fun toTolerance r q => ⟨fun absent => ?_, fun pending => ?_⟩⟩
  · rw [exec_freePeriodExpiry running clock, freeExpiry_due ((freeExpiryDue_iff _).mpr ⟨mode, reached⟩)]
  · have idle : ¬ freeExpiryDue s.reference = true := by
      rw [freeExpiryDue_iff, not_and_or, Nat.not_le]
      exact apart
    rw [exec_freePeriodExpiry running clock, freeExpiry_idle idle]
  · rw [exec_searchingFlywheel running clock, searchFlywheel_due ((flywheelDue_iff _).mpr ⟨state, reached⟩)]
  · have idle : ¬ flywheelDue s.reference = true := by
      rw [flywheelDue_iff, not_and_or, Nat.not_le]
      exact apart
    rw [exec_searchingFlywheel running clock, searchFlywheel_idle idle]
  · have stands (f : State → State) :
        Host.Outcome.next (φ := Fault) (ρ := Refusal) (whileRunning s (whileClocked f)) = .next s :=
      congrArg _ (whileRunning_clockless clock f)
    exact ⟨stands _, stands _, stands _, stands _⟩
  · exact adoptedParams_absent absent toTolerance
  · exact adoptedParams_pending pending toTolerance

/-! ## WINDOW_CLOSE (R24) -/

/-- R28: the close raises REF_STATE alone, and only where the state changes. -/
theorem raiseAtClose_same (st : RefState) (s : State) : raiseAtClose st st s = s := if_pos rfl

theorem raiseAtClose_changed {before after : RefState} (h : before ≠ after) (s : State) :
    raiseAtClose before after s = raiseRefState after s := if_neg h

/-- A close of the window changes reference unit, latches and counters alone, beside its tick. -/
theorem closeWindow_keeps_ticked {s : State} (due : windowCloseDue s.reference = true) (order : List TickWork) :
    Keeps [.reference, .latches, .live] (makeTick order s) (closeWindow order s) := by
  rw [closeWindow_due due]
  exact ((countReference_keeps (makeTick order s) .flywheelTicks).seq
    (modifyReference_keeps _ fun _ => adoptedParams true (closedReference s.reference)) (both := [.reference, .live])
    (by decide)).seq (raiseAtClose_keeps _ _ _) (by decide)

theorem closeWindow_reference {s : State} (due : windowCloseDue s.reference = true) (order : List TickWork) :
    (closeWindow order s).reference = adoptedParams true (closedReference s.reference) := by
  rw [closeWindow_due due, raiseAtClose_reference]

theorem closeWindow_live {s : State} (due : windowCloseDue s.reference = true) (order : List TickWork) :
    (closeWindow order s).live = (countReference .flywheelTicks (makeTick order s)).live := by
  rw [closeWindow_due due]
  exact raiseAtClose_keeps _ _ _ .live (by decide)

theorem closeWindow_latches_same {s : State} (due : windowCloseDue s.reference = true)
    (same : (closedReference s.reference).state = s.reference.state) (order : List TickWork) :
    (closeWindow order s).latches = (makeTick order s).latches := by
  rw [closeWindow_due due, same, raiseAtClose_same]
  rfl

theorem closeWindow_latches_changed {s : State} (due : windowCloseDue s.reference = true)
    (changed : s.reference.state ≠ (closedReference s.reference).state) (order : List TickWork) :
    (closeWindow order s).latches =
      (raise .refState 0 (closedReference s.reference).state.code (makeTick order s)).latches := by
  rw [closeWindow_due due, raiseAtClose_changed changed]
  rfl

/-- Settles O32: the missed run decides between COASTING and SEARCHING, and REF_STATE is raised where the state changes. -/
theorem windowCloses : Obligations.WindowCloses := by
  refine fun order s running clock => ⟨fun apart => ?_, fun following reached => ?_⟩
  · have idle : ¬ windowCloseDue s.reference = true := by
      rw [windowCloseDue_iff]
      rintro ⟨h | h, reached⟩
      all_goals simp [h, Nat.not_lt.mpr reached] at apart
    rw [exec_windowClose running clock, closeWindow_idle idle]
  · have due : windowCloseDue s.reference = true := (windowCloseDue_iff _).mpr ⟨following, reached⟩
    refine ⟨_, exec_windowClose running clock order, fun below => ?_, fun lost => ?_, closeWindow_live due order,
      closeWindow_keeps_ticked due order⟩
    · have coasts := closedReference_coasts below
      refine ⟨by rw [closeWindow_reference due, coasts], fun coasting => ?_, fun tracking => ?_⟩
      · exact closeWindow_latches_same due (by rw [coasts, coasting]) order
      · rw [closeWindow_latches_changed due (by rw [coasts, tracking]; nofun), coasts]
        rfl
    · have searches := closedReference_searches lost
      refine ⟨by rw [closeWindow_reference due, searches], ?_⟩
      have changed : s.reference.state ≠ (closedReference s.reference).state := by
        rw [searches]
        rcases following with h | h
        all_goals rw [h]; nofun
      rw [closeWindow_latches_changed due changed, searches]
      rfl

/-! ## REF_EDGE (R23, R26, R27) -/

theorem seeEdge_following {s : State} (h : s.reference.state = .tracking ∨ s.reference.state = .coasting)
    (order : List TickWork) : seeEdge order s = edgeWhileFollowing order s := by
  unfold seeEdge
  rcases h with h | h
  · rw [h]
  · rw [h]

theorem seeEdge_searching {s : State} (h : s.reference.state = .searching) (order : List TickWork) :
    seeEdge order s = edgeWhileSearching order s := by
  unfold seeEdge
  rw [h]

/-- R26: the spacing `e` of an edge lies within T of P. -/
def inSpacing (p : RefParams) (e : Nat) : Prop := p.period ≤ e + p.tolerance ∧ e ≤ p.period + p.tolerance

theorem judgedGoodRun_first {r : Reference} (h : r.edgeCounter = none) : judgedGoodRun r = r.goodRun := by
  rw [judgedGoodRun, h]

theorem judgedGoodRun_in {r : Reference} {e : Nat} (h : r.edgeCounter = some e) (good : inSpacing r.params e) :
    judgedGoodRun r = r.goodRun + 1 := by
  rw [judgedGoodRun, h]
  exact if_pos good

theorem judgedGoodRun_out {r : Reference} {e : Nat} (h : r.edgeCounter = some e) (bad : ¬ inSpacing r.params e) :
    judgedGoodRun r = 0 := by
  rw [judgedGoodRun, h]
  exact if_neg bad

theorem regains_iff (r : Reference) :
    regains r = true ↔ r.goodRun < judgedGoodRun r ∧ r.params.regainCount ≤ judgedGoodRun r := by
  simp [regains]

theorem edgeWhileSearching_regains {s : State} (h : regains s.reference = true) (order : List TickWork) :
    edgeWhileSearching order s = regain order s := if_pos h

/-- R26: an edge that does not regain REF leaves its judgement in the good run and starts e again. -/
theorem edgeWhileSearching_counts {s : State} {run : Nat} (judged : judgedGoodRun s.reference = run)
    (h : ¬ (s.reference.goodRun < run ∧ s.reference.params.regainCount ≤ run)) (order : List TickWork) :
    edgeWhileSearching order s = { s with reference := { s.reference with goodRun := run, edgeCounter := some 0 } } := by
  rw [edgeWhileSearching, if_neg (by rw [regains_iff, judged]; exact h), ← judged]
  rfl

theorem exec_refEdge_inWindow (order : List TickWork) (s : State) (running : s.resetHeld = none)
    (clock : s.timebaseRuns = true) (following : s.reference.state = .tracking ∨ s.reference.state = .coasting)
    (low : s.reference.params.period ≤ s.reference.periodCounter + s.reference.params.tolerance)
    (high : s.reference.periodCounter ≤ s.reference.params.period + s.reference.params.tolerance) :
    exec (.refEdge order) s = .next
      (if s.reference.state = .coasting then raise .refState 0 1 (tickedInWindow order s) else tickedInWindow order s) := by
  rw [exec_refEdge running clock, seeEdge_following following, edgeWhileFollowing_inWindow low high, edgeInWindow_eq]
  rfl

/-- Settles O31: the edge by the state of the unit, by c in TRACKING and COASTING and by e in SEARCHING. -/
theorem referenceEdges : Obligations.ReferenceEdges := by
  refine ⟨fun order s running clock => ⟨fun free => ?_, fun following => ⟨fun stray => ?_, fun low high => ?_⟩⟩,
    fun order s running clock searching => ?_⟩
  · rw [exec_refEdge running clock, seeEdge, free]
  · rw [exec_refEdge running clock, seeEdge_following following, edgeWhileFollowing_stray stray]
  · exact ⟨tickedInWindow order s, exec_refEdge_inWindow order s running clock following low high, rfl⟩
  · rw [exec_refEdge running clock, seeEdge_searching searching]
    refine ⟨fun first => ?_, fun e spacing => ⟨fun out => ?_, fun low high => ?_⟩⟩
    · rw [edgeWhileSearching_counts (judgedGoodRun_first first) (by omega)]
    · have bad : ¬ inSpacing s.reference.params e := by
        unfold inSpacing
        omega
      rw [edgeWhileSearching_counts (judgedGoodRun_out spacing bad) (by omega)]
    · have judged := judgedGoodRun_in spacing ⟨low, high⟩
      have regainsAt (enough : s.reference.params.regainCount ≤ s.reference.goodRun + 1) : regains s.reference = true := by
        rw [regains_iff, judged]
        exact ⟨Nat.lt_succ_self _, enough⟩
      refine ⟨fun below => ?_, fun enough silent => ?_, fun enough ticks => ?_⟩
      · rw [edgeWhileSearching_counts judged (by omega)]
      · rw [edgeWhileSearching_regains (regainsAt enough), regain_silent silent]
        rfl
      · exact ⟨_, rfl, by rw [edgeWhileSearching_regains (regainsAt enough), regain_ticks ticks]; rfl⟩

end Sys2Proof.Machine
end

section
/-! PROOFS. The tick (R20): its number, its works, and what is left over from an earlier one (R47, R87, R157). -/

namespace Sys2Proof.Machine

/-! ## The works of a tick -/

/-- R47: a stream's count at a tick. -/
theorem countTick_eq (n : Fin 32) (s : State) :
    countTick n s =
      { s with
        contexts :=
          s.contexts.set n
            (if s.contexts[n].state = .locked then
              { s.contexts[n] with
                windowTicks := s.contexts[n].windowTicks + 1
                activityDue := decide (s.entries[n].fields.activityWindow ≤ s.contexts[n].windowTicks + 1) }
             else s.contexts[n]) } := rfl

/-- R157: the generator's own count at a tick, before any other work. -/
theorem generatorTick_eq (g : Generator) :
    generatorTick g =
      if g.state = .running then
        { g with
          ticksSinceStart := g.ticksSinceStart.map fun t => if t < 255 then t + 1 else t
          frameStartDue :=
            !g.inProgress &&
              (match g.ticksSinceStart with
               | none => true
               | some t => decide (g.spacing ≤ if t < 255 then t + 1 else t)) }
      else g := by
  unfold generatorTick
  cases g.ticksSinceStart with
  | none => rfl
  | some t => rfl

/-- R20: a command that names no work has each stream's count and then each slot's work. -/
theorem tickWorks_nil : tickWorks [] = (indexes 32).map TickWork.count ++ (indexes 16).map TickWork.slot := by
  simp [tickWorks]

/-! ## What an earlier tick left over (log entry 5) -/

theorem judgeActivity_idle {n : Fin 32} {s : State} (h : judgementDue s n = false) : judgeActivity n s = s := by
  rw [judgeActivity, if_neg (by rw [h]; decide)]

theorem expireHold_idle {k : Fin 16} {s : State} (h : s.slots[k].holdExpiryDue = false) : expireHold k s = s := by
  rw [expireHold, if_neg (by rw [h]; decide)]

/-- Works that each leave a state as it is leave it so together. -/
theorem forEach_fixed {ι σ : Type} (f : ι → σ → σ) (s : σ) (fixed : ∀ i, f i s = s) (is : List ι) : forEach is f s = s :=
  forEach_keeps (fun t => t = s) f (fun i t ht => by rw [ht, fixed]) is s rfl

theorem finishTick_idle {s : State} (judged : ∀ n : Fin 32, judgementDue s n = false)
    (held : ∀ k : Fin 16, s.slots[k].holdExpiryDue = false) : finishTick s = s := by
  unfold finishTick
  rw [forEach_fixed judgeActivity s fun n => judgeActivity_idle (judged n)]
  exact forEach_fixed expireHold s (fun k => expireHold_idle (held k)) _

/-- Settles O29: the number and the generator's count come first, then each work of the tick once. -/
theorem tickDelivered : Obligations.TickDelivered := by
  intro order s
  have works : (tickWorks order).Nodup ∧ (∀ n : Fin 32, TickWork.count n ∈ tickWorks order) ∧
      (∀ k : Fin 16, TickWork.slot k ∈ tickWorks order) ∧ ∀ w ∈ order, w ∈ tickWorks order :=
    ⟨nodup_tickWorks order, fun n => (mem_tickWorks _ _).mpr (Or.inr (Or.inl ⟨n, rfl⟩)),
      fun k => (mem_tickWorks _ _).mpr (Or.inr (Or.inr ⟨k, rfl⟩)), fun w hw => (mem_tickWorks _ w).mpr (Or.inl hw)⟩
  refine ⟨makeTick_reference order s, ?_, fun n => countTick_eq n s, fun _ => rfl, fun _ => rfl, rfl, fun running => ?_,
    works, tickWorks_nil, fun judged held => ?_⟩
  · exact congrArg
      (fun g => { s with
        reference := { s.reference with tickNumber := s.reference.tickNumber + 1#32 }
        generator := g })
      (generatorTick_eq s.generator)
  · exact ⟨fun n => congrArg _ (whileRunning_running running _), congrArg _ (whileRunning_running running _)⟩
  · rw [makeTick, finishTick_idle judged held]

end Sys2Proof.Machine
end

section
/-! PROOFS. The reference requests (R29 to R32). -/

namespace Sys2Proof.Machine

/-! ## The path of a request that is ready (R179, R181) -/

theorem exec_readReference {p : List Word} {rest : List (List Word)} {s : State} (h : RequestReady 0x0E#8 p rest s) :
    exec .readReference s = .next (offerReply (okReply p (referenceWords s.reference)) (takeRequest rest s)) := by
  show Host.Outcome.next (whileRunning s (runRequest 0x0E#8 bodyReadReference)) = _
  rw [whileRunning_running h.1, runRequest_ready h]
  rfl

theorem exec_setReference {p : List Word} {rest : List (List Word)} {s : State} (h : RequestReady 0x0F#8 p rest s) :
    exec .setReference s = .next
      (answerRequest p (bodySetReference (requestOperands p) (takeRequest rest s)).2
        (bodySetReference (requestOperands p) (takeRequest rest s)).1) := by
  show Host.Outcome.next (whileRunning s (runRequest 0x0F#8 bodySetReference)) = _
  rw [whileRunning_running h.1, runRequest_ready h]

/-! ## SET_REFERENCE (R29 to R31) -/

theorem within_eq_decide (low high v : Nat) : within low high v = decide (low ≤ v ∧ v ≤ high) := by
  simp [within]

/-- R29: the checks after the mode, with their bounds. -/
theorem refChecks_eq (q : RefParams) :
    refChecks q =
      [(decide (1000 ≤ q.period ∧ q.period ≤ 16777214), .badArgument 2),
       (decide (4 * q.tolerance ≤ q.period), .badArgument 3),
       (decide (1 ≤ q.lossCount ∧ q.lossCount ≤ 15), .badArgument 4),
       (decide (1 ≤ q.regainCount ∧ q.regainCount ≤ 15), .badArgument 5)] := by
  simp only [refChecks, within_eq_decide]

theorem refModeOf_code (mode : RefMode) : refModeOf mode.code = some mode := by
  cases mode with
  | free => rfl
  | follow => rfl

theorem refModeOf_eq_none {code : Nat} (h : ¬ code ≤ 1) : refModeOf code = none := by
  match code with
  | 0 => exact absurd (Nat.zero_le 1) h
  | 1 => exact absurd le_rfl h
  | _ + 2 => rfl

theorem refModeOf_of_le {code : Nat} (h : code ≤ 1) : ∃ mode, refModeOf code = some mode := by
  match code with
  | 0 => exact ⟨_, rfl⟩
  | 1 => exact ⟨_, rfl⟩
  | _ + 2 => exact absurd h (by omega)

/-- Every check of SetReference, that of the mode first (R29). -/
def setReferenceChecks (code : Nat) (q : RefParams) : List (Bool × Answer) :=
  (decide (code ≤ 1), .badArgument 1) :: refChecks q

theorem bodySetReference_fails {ops : List Word} {reason : Nat} (s : State)
    (h : firstFailure (setReferenceChecks (operand ops 0) (refParamsOf ops)) = some (.badArgument reason)) :
    bodySetReference ops s = (s, .badArgument reason) := by
  unfold bodySetReference
  by_cases low : operand ops 0 ≤ 1
  · obtain ⟨mode, hmode⟩ := refModeOf_of_le low
    have later : firstFailure (refChecks (refParamsOf ops)) = some (.badArgument reason) := by
      simpa [setReferenceChecks, firstFailure, low] using h
    rw [hmode]
    simp only [checked, later]
  · have first : reason = 1 := by
      simpa [setReferenceChecks, firstFailure, low, eq_comm] using h
    rw [refModeOf_eq_none low, first]

theorem bodySetReference_good {ops : List Word} {mode : RefMode} (s : State)
    (h : firstFailure (setReferenceChecks (operand ops 0) (refParamsOf ops)) = none) (hmode : operand ops 0 = mode.code) :
    bodySetReference ops s = (takeReference mode (refParamsOf ops) s, .ok []) := by
  have later : firstFailure (refChecks (refParamsOf ops)) = none := by
    rw [firstFailure_none] at h ⊢
    exact fun c hc => h c (List.mem_cons_of_mem _ hc)
  unfold bodySetReference
  rw [hmode, refModeOf_code]
  simp only [checked, later]

/-- R30: the mode in force. -/
theorem takeReference_same {s : State} {mode : RefMode} (h : s.reference.mode = mode) (q : RefParams) :
    takeReference mode q s = { s with reference := { s.reference with pendingParams := some q } } :=
  if_pos h

/-- R31: a change to FOLLOW. -/
theorem takeReference_follow {s : State} (h : s.reference.mode = .free) (q : RefParams) :
    takeReference .follow q s =
      raise .refState 0 3
        { s with
          reference :=
            { s.reference with
              mode := .follow, state := .searching, params := q, pendingParams := none, periodCounter := 0,
              missedRun := 0, goodRun := 0, edgeCounter := none } } := by
  unfold takeReference
  rw [if_neg (by rw [h]; nofun)]
  rfl

/-- R31: a change to FREE. -/
theorem takeReference_free {s : State} (h : s.reference.mode = .follow) (q : RefParams) :
    takeReference .free q s =
      raise .refState 0 0
        { s with
          reference :=
            { s.reference with
              mode := .free, state := .free, params := q, pendingParams := none, periodCounter := 0, missedRun := 0,
              goodRun := 0, edgeCounter := none } } := by
  unfold takeReference
  rw [if_neg (by rw [h]; nofun)]
  rfl

theorem exec_setReference_good {p : List Word} {rest : List (List Word)} {s : State} {mode : RefMode}
    (h : RequestReady 0x0F#8 p rest s)
    (good : firstFailure (setReferenceChecks (argument p 0) (refParamsOf (requestOperands p))) = none)
    (hmode : argument p 0 = mode.code) :
    exec .setReference s = .next
      (offerReply (okReply p []) (takeReference mode (refParamsOf (requestOperands p)) (takeRequest rest s))) := by
  rw [exec_setReference h, bodySetReference_good _ good hmode]
  rfl

/-- Settles O47: the words of the unit; and the first failing check, the mode in force, or a change of mode. -/
theorem referenceRequests : Obligations.ReferenceRequests := by
  refine ⟨fun p rest s ready => ?_, fun p rest s ready => ?_⟩
  · rw [exec_readReference ready, referenceWords, field, BitVec.setWidth_eq]
  · intro q first
    have checks : first = firstFailure (setReferenceChecks (argument p 0) q) := by
      rw [setReferenceChecks, refChecks_eq]
    refine ⟨fun reason fails => ?_, fun good same => ?_, fun good code free => ?_, fun good code follow => ?_⟩
    · rw [exec_setReference ready, bodySetReference_fails _ (checks.symm.trans fails)]
      rfl
    · rw [exec_setReference_good ready (checks.symm.trans good) same,
        takeReference_same (s := takeRequest rest s) (mode := s.reference.mode) rfl]
      rfl
    · rw [exec_setReference_good (mode := .follow) ready (checks.symm.trans good) code,
        takeReference_follow (s := takeRequest rest s) free]
      rfl
    · rw [exec_setReference_good (mode := .free) ready (checks.symm.trans good) code,
        takeReference_free (s := takeRequest rest s) follow]
      rfl

end Sys2Proof.Machine
end

section
/-! PROOFS. The laws of the part right after reset (R186). -/

namespace Sys2Proof.Machine

theorem memoryCanonical_reset : MemoryCanonical State.reset := ⟨rfl, List.Pairwise.nil⟩

theorem faultRecordLawful_reset : FaultRecordLawful State.reset.faults := by
  refine ⟨nofun, nofun, ⟨nofun, nofun⟩, rfl, rfl⟩

/-- R58: after reset no buffer is held and no slot has a current buffer. -/
theorem holdsCounted_reset : HoldsCounted State.reset := by
  intro b
  have idle (k : Fin 16) : State.reset.slots[k] = State.resetSlot := replicate_get _ k
  rw [reset_buffer b.stream b.ring]
  simp [idle, State.resetSlot, State.resetBuffer]

/-- R62: after reset every buffer is EMPTY. -/
theorem oneFilling_reset : OneFilling State.reset := by
  intro n i j filling
  rw [reset_buffer] at filling
  cases filling

/-- R53: after reset nothing is outstanding and the write queue is empty. -/
theorem writesCounted_reset : WritesCounted State.reset := by
  intro n
  rw [show State.reset.contexts[n] = State.resetContext from replicate_get _ n]
  rfl

/-- Settles O60: each law at the reset values. -/
theorem lawsHoldAtReset : Obligations.LawsHoldAtReset :=
  ⟨queuesBounded_reset, memoryCanonical_reset, faultRecordLawful_reset, holdsCounted_reset, oneFilling_reset,
    writesCounted_reset, referenceLawful_reset⟩

end Sys2Proof.Machine
end

section
/-! PROOFS. The step on an empty queue of commands: the part's own events and one timebase unit (log entries 3, 5, 13 and 30). -/

namespace Sys2Proof.Machine

/-! ## The step -/

theorem step_of_empty {s : State} (h : s.pending = []) : step s = idleStep s := by
  unfold step
  rw [h]

theorem idleStep_held {s : State} (h : s.resetHeld.isSome = true) : idleStep s = .next s := if_pos h

theorem idleStep_due {s : State} {c : Instr} (running : s.resetHeld = none) (due : dueEvent s = some c) :
    idleStep s = exec c s := by
  unfold idleStep
  rw [running, due]
  rfl

theorem idleStep_unit {s : State} (running : s.resetHeld = none) (quiet : dueEvent s = none) :
    idleStep s = .next (timeUnit s) := by
  unfold idleStep
  rw [running, quiet]
  rfl

/-! ## One timebase unit (R19, R22, R26, R42, R137) -/

/-- R42: the interval counter of a measuring stream in service in one timebase unit. -/
theorem unitContext_eq (c : StreamContext) :
    unitContext c =
      if inService c.state = true ∧ c.measuring = true ∧ c.intervalCounter < 0xFFFFFF then
        { c with
          intervalCounter := c.intervalCounter + 1
          overflowDue := c.overflowDue || c.intervalCounter + 1 == 0xFFFFFF }
      else c := by
  have counts : (inService c.state && c.measuring && decide (c.intervalCounter < Config.intervalMax)) = true ↔
      inService c.state = true ∧ c.measuring = true ∧ c.intervalCounter < 0xFFFFFF := by
    rw [Bool.and_eq_true, Bool.and_eq_true, decide_eq_true_iff, and_assoc, Config.intervalMax]
  exact if_congr counts rfl rfl

/-- The part after one timebase unit, with the head of the tape taken and not yet carried out (log entry 13). -/
def unitPassed (s : State) : State := { whileClocked countUnit s with upsets := s.upsets.tail }

theorem unitPassed_keeps (s : State) : Keeps [.reference, .contexts, .arbiter, .upsets] s (unitPassed s) := by
  refine (whileClocked_keeps countUnit_keeps s).seq (second := [.upsets]) ?_ (by decide)
  intro f hf; cases f <;> first | rfl | simp at hf

theorem whileClocked_countUnit_upsets (s : State) : (whileClocked countUnit s).upsets = s.upsets :=
  whileClocked_keeps countUnit_keeps s .upsets (by decide)

/-- An empty tape disturbs nothing. -/
theorem timeUnit_of_empty {s : State} (h : s.upsets = []) : timeUnit s = unitPassed s := by
  have tape := (whileClocked_countUnit_upsets s).trans h
  have taken : unitPassed s = whileClocked countUnit s := by rw [unitPassed, h, List.tail_nil, ← tape]
  unfold timeUnit takeUpset
  rw [tape, taken]

theorem timeUnit_of_head {s : State} {u : Upset} (h : s.upsets.head? = some u) : timeUnit s = upsetBy u (unitPassed s) := by
  obtain ⟨rest, hs⟩ := List.head?_eq_some_iff.mp h
  have tape := (whileClocked_countUnit_upsets s).trans hs
  unfold timeUnit takeUpset unitPassed
  rw [tape, hs, List.tail_cons]

/-- What comes from outside touches no counter of timebase units, and takes the head of the tape alone. -/
theorem timeUnit_keeps_unitPassed (s : State) :
    Keeps [.entries, .routes, .memory, .timebaseRuns] (unitPassed s) (timeUnit s) := by
  cases h : s.upsets.head? with
  | none =>
    rw [timeUnit_of_empty (List.head?_eq_none_iff.mp h)]
    exact Keeps.refl _ _
  | some u =>
    rw [timeUnit_of_head h]
    exact upsetBy_keeps u _

theorem timeUnit_reference (s : State) : (timeUnit s).reference = (whileClocked countUnit s).reference :=
  timeUnit_keeps_unitPassed s .reference (by decide)

theorem timeUnit_contexts (s : State) : (timeUnit s).contexts = (whileClocked countUnit s).contexts :=
  timeUnit_keeps_unitPassed s .contexts (by decide)

theorem timeUnit_arbiter (s : State) : (timeUnit s).arbiter = (whileClocked countUnit s).arbiter :=
  timeUnit_keeps_unitPassed s .arbiter (by decide)

theorem timeUnit_upsets (s : State) : (timeUnit s).upsets = s.upsets.tail :=
  timeUnit_keeps_unitPassed s .upsets (by decide)

/-! ## What comes from outside in one timebase unit (R19, R138, R166) -/

theorem upsetBy_streamEntry_keeps (n : Fin 32) (stored : StreamFields) (s : State) :
    Keeps [.entries] s (upsetBy (.streamEntry n stored) s) := by
  intro f hf; cases f <;> first | rfl | simp at hf

theorem upsetBy_memoryBit_keeps (w : Nat) (bit : Fin 72) (s : State) :
    Keeps [.memory] s (upsetBy (.memoryBit w bit) s) := by
  intro f hf; cases f <;> first | rfl | simp at hf

theorem upsetBy_clockStops_keeps (s : State) : Keeps [.timebaseRuns] s (upsetBy .clockStops s) := by
  intro f hf; cases f <;> first | rfl | simp at hf

theorem upsetBy_clockRuns_keeps (s : State) : Keeps [.timebaseRuns] s (upsetBy .clockRuns s) := by
  intro f hf; cases f <;> first | rfl | simp at hf

/-- R138: a bit is in error after it has been turned over exactly when it was not, and no other bit changes. -/
theorem mem_toggleBadBit_iff {bad : List Nat} (rising : bad.Pairwise (· < ·)) (b x : Nat) :
    x ∈ toggleBadBit bad b ↔ if x = b then x ∉ bad else x ∈ bad := by
  split
  · rename_i same
    subst same
    induction bad with
    | nil => simp [toggleBadBit]
    | cons c rest ih =>
      obtain ⟨above, rising⟩ := List.pairwise_cons.mp rising
      have apart (h : x ≤ c) : x ∉ rest := fun hx => by
        have := above x hx
        omega
      unfold toggleBadBit
      split
      · rename_i below
        simp [Nat.ne_of_lt below, apart below.le]
      · split
        · rename_i same
          subst same
          simp [apart le_rfl]
        · rename_i other
          simp [other, ih rising]
  · rename_i other
    exact mem_toggleBadBit_of_ne other

/-! ## What a timebase unit counts, and what an item of the tape does in it -/

/-- R19: the counters of timebase units count while TBCLK runs, and stand while it stands. -/
theorem timeUnit_counts (s : State) :
    (s.timebaseRuns = true →
      (timeUnit s).reference = unitReference s.reference ∧ (timeUnit s).arbiter = unitArbiter s.arbiter ∧
        ∀ n : Fin 32, (timeUnit s).contexts[n] = unitContext s.contexts[n]) ∧
      (s.timebaseRuns = false →
        (timeUnit s).reference = s.reference ∧ (timeUnit s).arbiter = s.arbiter ∧
          (timeUnit s).contexts = s.contexts) := by
  rw [timeUnit_reference, timeUnit_arbiter, timeUnit_contexts]
  refine ⟨fun clock => ?_, fun clock => ?_⟩
  · rw [whileClocked_runs clock]
    exact ⟨rfl, rfl, fun n => mapTable_get _ _ n⟩
  · rw [whileClocked_stands clock]
    exact ⟨rfl, rfl, rfl⟩

/-- What an item of the tape leaves is left by its timebase unit, the counters apart. -/
theorem timeUnit_upset_keeps {s : State} {u : Upset} {touched : List Field} (head : s.upsets.head? = some u)
    (item : ∀ t, Keeps touched t (upsetBy u t)) :
    Keeps ([.reference, .contexts, .arbiter, .upsets] ++ touched) s (timeUnit s) := by
  rw [timeUnit_of_head head]
  refine ((unitPassed_keeps s).mono (by simp)).trans ((item _).mono (List.all_eq_true.mpr fun f hf => ?_))
  exact List.contains_iff_mem.mpr (List.mem_append_right _ hf)

theorem unitPassed_entries (s : State) : (unitPassed s).entries = s.entries := unitPassed_keeps s .entries (by decide)

theorem unitPassed_routes (s : State) : (unitPassed s).routes = s.routes := unitPassed_keeps s .routes (by decide)

theorem unitPassed_memory (s : State) : (unitPassed s).memory = s.memory := unitPassed_keeps s .memory (by decide)

theorem timeUnit_streamEntry {s : State} {n : Fin 32} {stored : StreamFields}
    (head : s.upsets.head? = some (.streamEntry n stored)) :
    (timeUnit s).entries = s.entries.set n { fields := stored, parityGood := false } := by
  rw [timeUnit_of_head head, ← unitPassed_entries s]
  rfl

theorem timeUnit_activeRoute {s : State} {k : Fin 16} {stored : RouteFields}
    (head : s.upsets.head? = some (.activeRoute k stored)) :
    (timeUnit s).routes = s.routes.set k { s.routes[k] with active := { fields := stored, parityGood := false } } := by
  rw [timeUnit_of_head head, ← unitPassed_routes s]
  rfl

theorem timeUnit_pendingRoute {s : State} {k : Fin 16} {stored : RouteFields}
    (head : s.upsets.head? = some (.pendingRoute k stored)) :
    (timeUnit s).routes = s.routes.set k
      { s.routes[k] with pending := s.routes[k].pending.map fun _ => { fields := stored, parityGood := false } } := by
  rw [timeUnit_of_head head, ← unitPassed_routes s]
  rfl

theorem timeUnit_memoryBit {s : State} {w : Nat} {bit : Fin 72} (head : s.upsets.head? = some (.memoryBit w bit)) :
    (timeUnit s).memory = { s.memory with badBits := toggleBadBit s.memory.badBits (72 * w + bit.val) } := by
  rw [timeUnit_of_head head, ← unitPassed_memory s]
  rfl

theorem timeUnit_quiet_keeps {s : State} (quiet : s.upsets = [] ∨ s.upsets.head? = some .quiet) :
    Keeps [.reference, .contexts, .arbiter, .upsets] s (timeUnit s) := by
  rcases quiet with empty | head
  · rw [timeUnit_of_empty empty]
    exact unitPassed_keeps s
  · exact timeUnit_upset_keeps (touched := []) head fun t => Keeps.refl _ t

/-! ## The events that are due (log entry 5) -/

/-- A row that is due under a condition. -/
theorem dueIf_eq {due : Bool} {cond : Prop} [Decidable cond] (h : due = true ↔ cond) (i : Instr) :
    dueIf due i = if cond then [i] else [] := if_congr h rfl rfl

theorem judgementDue_iff (s : State) (n : Fin 32) :
    judgementDue s n = true ↔ s.contexts[n].state = .locked ∧ s.contexts[n].activityDue = true := by
  simp [judgementDue]

theorem generatorFrameDue_iff (g : Generator) :
    generatorFrameDue g = true ↔ g.state = .running ∧ g.stream.isSome = true ∧ g.frameStartDue = true := by
  simp [generatorFrameDue, and_assoc]

theorem refreshTimerDue_iff (a : Arbiter) : refreshTimerDue a = true ↔ a.refreshInterval ≤ a.refreshTimer :=
  decide_eq_true_iff

theorem clocked_iff {s : State} {due : Bool} {cond : Prop} (h : due = true ↔ cond) :
    (s.timebaseRuns && due) = true ↔ s.timebaseRuns = true ∧ cond := by
  rw [Bool.and_eq_true, h]

theorem filter_judgementDue (s : State) :
    (indexes 32).filter (judgementDue s) =
      (indexes 32).filter fun n => decide (s.contexts[n].state = .locked ∧ s.contexts[n].activityDue = true) :=
  List.filter_congr fun n _ => by rw [Bool.eq_iff_iff, judgementDue_iff, decide_eq_true_iff]

theorem writeQueueHasRoom_iff (s : State) : writeQueueHasRoom s = true ↔ s.writeQueue.length < 16 := decide_eq_true_iff

theorem waitingDue_iff (s : State) :
    waitingDue s = true ↔ s.dispatcher.waiting.isSome = true ∧ s.writeQueue.length < 16 := by
  rw [waitingDue, Bool.and_eq_true, writeQueueHasRoom_iff]

theorem generatorBurstDue_iff (s : State) :
    generatorBurstDue s = true ↔
      s.generator.waiting.isSome = true ∧ s.generator.stream.isSome = true ∧ s.writeQueue.length < 16 := by
  rw [generatorBurstDue, Bool.and_eq_true, Bool.and_eq_true, writeQueueHasRoom_iff, and_assoc]

/-- R8: a FIFO that holds a burst gives the dispatcher a next port. -/
theorem nextPort_isSome_iff (s : State) : (nextPort s).isSome = true ↔ ∃ p : Fin 4, s.ingress[p].fifo ≠ [] := by
  constructor
  · intro h
    obtain ⟨p, hp⟩ := Option.isSome_iff_exists.mp h
    exact ⟨p, ((nextPort_eq_some_iff s p).mp hp).1⟩
  · rintro ⟨p, hp⟩
    rw [nextPort, List.find?_isSome]
    exact ⟨p, mem_roundFrom _ p, by simpa using hp⟩

theorem dispatchDue_iff (s : State) :
    dispatchDue s = true ↔ s.dispatcher.waiting = none ∧ ∃ p : Fin 4, s.ingress[p].fifo ≠ [] := by
  rw [dispatchDue, Bool.and_eq_true, nextPort_isSome_iff, Option.isNone_iff_eq_none]

theorem grantDue_iff (s : State) :
    grantDue s = true ↔ s.arbiter.access = none ∧ (chooseClaim s).isSome = true := by
  rw [grantDue, Bool.and_eq_true, Option.isNone_iff_eq_none]

theorem filter_egressDue (s : State) :
    (indexes 4).filter (egressDue s) =
      (indexes 4).filter fun p => decide (s.egress[p].sending = none ∧ (nextParticipant s p).isSome = true) :=
  List.filter_congr fun p _ => by
    rw [Bool.eq_iff_iff, egressDue, Bool.and_eq_true, Option.isNone_iff_eq_none, decide_eq_true_iff]

/-- R182: a waiting reply falls due with a place in the reply queue. -/
theorem dueIf_replySpaceDue (s : State) :
    dueIf (replySpaceDue s) .replySpaceFreed =
      match s.executor with
      | .waitReplySpace _ => if s.replyQueue.length < 4 then [.replySpaceFreed] else []
      | _ => [] := by
  unfold replySpaceDue
  cases s.executor with
  | waitReplySpace r => exact dueIf_eq decide_eq_true_iff _
  | idle => rfl
  | executing => rfl
  | waitMemory j => rfl

/-- R178, R179: an IDLE executor takes the head request by its row. -/
theorem requestDue_eq (s : State) :
    requestDue s =
      if s.executor = .idle then
        (s.requestQueue.take 1).map fun p =>
          if formGood p = true then (rowOfCode (requestCode p)).getD .badRequest else .badRequest
      else [] := by
  have head : (s.requestQueue.head?.map rowOfRequest).toList = (s.requestQueue.take 1).map rowOfRequest := by
    cases s.requestQueue with
    | nil => rfl
    | cons p rest => rfl
  have idle : executorIdle s = true ↔ s.executor = .idle := by
    unfold executorIdle
    cases s.executor <;> simp
  rw [requestDue, head]
  exact if_congr idle rfl rfl

theorem append_congr {α : Type} {a b c d : List α} (h : a = b) (g : c = d) : a ++ c = b ++ d := by rw [h, g]

theorem dueByTime_eq (s : State) :
    dueByTime s =
      ((indexes 32).filter fun n => decide (s.contexts[n].state = .locked ∧ s.contexts[n].activityDue = true)).map
          Instr.activityJudgement ++
        ((indexes 16).filter fun k => s.slots[k].holdExpiryDue).map Instr.holdExpired ++
        (if s.generator.state = .running ∧ s.generator.stream.isSome = true ∧ s.generator.frameStartDue = true then
          [.generatorFrameStart] else []) ++
        ((indexes 32).filter fun n => s.contexts[n].overflowDue).map Instr.intervalOverflow ++
        (if s.arbiter.refreshInterval ≤ s.arbiter.refreshTimer then [.refreshTimerExpiry] else []) ++
        (if s.timebaseRuns = true ∧ s.reference.mode = .free ∧ s.reference.params.period ≤ s.reference.periodCounter then
          [.freePeriodExpiry []] else []) ++
        (if s.timebaseRuns = true ∧ (s.reference.state = .tracking ∨ s.reference.state = .coasting) ∧
            s.reference.params.period + s.reference.params.tolerance ≤ s.reference.periodCounter then
          [.windowClose []] else []) ++
        (if s.timebaseRuns = true ∧ s.reference.state = .searching ∧
            s.reference.params.period ≤ s.reference.periodCounter then
          [.searchingFlywheel []] else []) := by
  rw [dueByTime, filter_judgementDue, dueIf_eq (generatorFrameDue_iff _), dueIf_eq (refreshTimerDue_iff _),
    dueIf_eq (clocked_iff (freeExpiryDue_iff _)), dueIf_eq (clocked_iff (windowCloseDue_iff _)),
    dueIf_eq (clocked_iff (flywheelDue_iff _))]

/-- At c = P of FREE mode, with nothing earlier due, the period expires first (R22). -/
theorem dueEvent_freeExpiry {s : State} (clock : s.timebaseRuns = true) (due : freeExpiryDue s.reference = true)
    (streams : ∀ n : Fin 32, judgementDue s n = false ∧ s.contexts[n].overflowDue = false)
    (held : ∀ k : Fin 16, s.slots[k].holdExpiryDue = false) (generator : s.generator.frameStartDue = false)
    (timer : refreshTimerDue s.arbiter = false) : dueEvent s = some (.freePeriodExpiry []) := by
  have judgements : (indexes 32).filter (judgementDue s) = [] :=
    List.filter_eq_nil_iff.mpr fun n _ => by rw [(streams n).1]; decide
  have overflows : (indexes 32).filter (fun n => s.contexts[n].overflowDue) = [] :=
    List.filter_eq_nil_iff.mpr fun n _ => by rw [(streams n).2]; decide
  have holds : (indexes 16).filter (fun k => s.slots[k].holdExpiryDue) = [] :=
    List.filter_eq_nil_iff.mpr fun k _ => by rw [held k]; decide
  have frame : generatorFrameDue s.generator = false := by
    rw [generatorFrameDue, generator, Bool.and_false]
  rw [dueEvent, dueByTime, judgements, overflows, holds, frame, timer, clock, due]
  rfl

/-- R179: with an IDLE executor and nothing due by time the head request comes first. -/
theorem dueEvent_request {s : State} {p : List Word} {rest : List (List Word)} (quiet : dueByTime s = [])
    (idle : s.executor = .idle) (queue : s.requestQueue = p :: rest) : dueEvent s = some (rowOfRequest p) := by
  have space : dueIf (replySpaceDue s) .replySpaceFreed = [] := by
    unfold replySpaceDue
    rw [idle]
    rfl
  have request : requestDue s = [rowOfRequest p] := by
    unfold requestDue executorIdle
    rw [idle, queue]
    rfl
  rw [dueEvent, quiet, dueByQueues, space, request]
  rfl

/-- Settles O2: the step by reset, due event or timebase unit; the unit by clock and tape; the events due, piece by piece. -/
theorem emptyQueueStep : Obligations.EmptyQueueStep := by
  refine ⟨fun s empty => ⟨fun held => ?_, fun c running due => ?_, fun running quiet => ?_⟩, fun s => ?_⟩
  · rw [step_of_empty empty, idleStep_held held]
  · rw [step_of_empty empty, idleStep_due running due]
  · obtain ⟨runs, stands⟩ := timeUnit_counts s
    refine ⟨timeUnit s, by rw [step_of_empty empty, idleStep_unit running quiet], timeUnit_keeps s, fun clock => ?_, stands,
      timeUnit_upsets s, timeUnit_quiet_keeps, fun n stored head => ?_, fun k stored head => ?_, fun k stored head => ?_,
      fun w bit head => ?_, fun head => ?_, fun head => ?_⟩
    · obtain ⟨reference, arbiter, contexts⟩ := runs clock
      exact ⟨reference, arbiter, fun n => (contexts n).trans (unitContext_eq _)⟩
    · exact ⟨timeUnit_streamEntry head, timeUnit_upset_keeps head (upsetBy_streamEntry_keeps n stored)⟩
    · exact ⟨timeUnit_activeRoute head, timeUnit_upset_keeps head fun t => modifyRoute_keeps t k _⟩
    · exact ⟨timeUnit_pendingRoute head, timeUnit_upset_keeps head fun t => modifyRoute_keeps t k _⟩
    · refine ⟨timeUnit_memoryBit head, fun rising b => ?_, timeUnit_upset_keeps head (upsetBy_memoryBit_keeps w bit)⟩
      rw [timeUnit_memoryBit head]
      exact mem_toggleBadBit_iff rising _ b
    · exact ⟨by rw [timeUnit_of_head head]; rfl, timeUnit_upset_keeps head upsetBy_clockStops_keeps⟩
    · exact ⟨by rw [timeUnit_of_head head]; rfl, timeUnit_upset_keeps head upsetBy_clockRuns_keeps⟩
  · refine ⟨dueByTime_eq s, ?_, rfl, fun empty running => ⟨fun clock mode reached streams held generator timer => ?_,
      fun p rest quiet idle queue => ?_⟩⟩
    · rw [dueByQueues, dueIf_eq (waitingDue_iff s), dueIf_eq (generatorBurstDue_iff s), dueIf_eq (dispatchDue_iff s),
        dueIf_eq (grantDue_iff s), filter_egressDue, requestDue_eq]
      exact append_congr (append_congr (append_congr (append_congr (append_congr (append_congr
        (dueIf_replySpaceDue s) rfl) rfl) rfl) rfl) rfl) rfl
    · have judged (n : Fin 32) : judgementDue s n = false ∧ s.contexts[n].overflowDue = false := by
        obtain ⟨judgement, overflow⟩ := streams n
        exact ⟨by rwa [← Bool.not_eq_true, judgementDue_iff], overflow⟩
      have first := dueEvent_freeExpiry clock ((freeExpiryDue_iff _).mpr ⟨mode, reached⟩) judged held generator
        (decide_eq_false (Nat.not_le.mpr timer))
      rw [step_of_empty empty, idleStep_due running first]
    · rw [step_of_empty empty, idleStep_due running (dueEvent_request quiet idle queue)]
      rfl

end Sys2Proof.Machine
end

section
/-! PROOFS. The count of each stream's writes outstanding (R53, R132), which every step keeps. -/

namespace Sys2Proof.Machine

/-! ## What the law depends on -/

/-- A change of neither the contexts nor the write queue keeps the counts. -/
theorem WritesCounted.of_apart {touched : List Field} {s t : State} (hs : WritesCounted s) (hk : Keeps touched s t)
    (apart : Field.contexts ∉ touched ∧ Field.writeQueue ∉ touched) : WritesCounted t := by
  obtain ⟨noContexts, noQueue⟩ := apart
  have contexts : t.contexts = s.contexts := hk .contexts noContexts
  have queue : t.writeQueue = s.writeQueue := hk .writeQueue noQueue
  unfold WritesCounted
  rw [contexts, queue]
  exact hs

/-- A change of a context keeps the counts when it keeps that stream's writes outstanding. -/
theorem WritesCounted.modifyContext {s : State} (hs : WritesCounted s) (n : Fin 32) {f : StreamContext → StreamContext}
    (hf : ∀ c, (f c).writesOutstanding = c.writesOutstanding) : WritesCounted (modifyContext n f s) := by
  intro m
  show (modifyAt s.contexts n f)[m].writesOutstanding = _
  rw [modifyAt_get]
  split
  · rename_i same
    rw [hf, same]
    exact hs n
  · exact hs m

theorem WritesCounted.mapContexts {s : State} (hs : WritesCounted s) {f : StreamContext → StreamContext}
    (hf : ∀ c, (f c).writesOutstanding = c.writesOutstanding) :
    WritesCounted { s with contexts := mapTable f s.contexts } := by
  intro n
  show (mapTable f s.contexts)[n].writesOutstanding = _
  rw [mapTable_get, hf]
  exact hs n

/-! ## The entries to LOST and to CLOSING (R49, R51, R52, R58) -/

theorem WritesCounted.settleClosing {s : State} (hs : WritesCounted s) (n : Fin 32) :
    WritesCounted (settleClosing n s) := by
  unfold Machine.settleClosing
  split
  · exact hs.modifyContext n fun _ => rfl
  · exact hs

theorem WritesCounted.letGo {s : State} (hs : WritesCounted s) (b : BufferName) : WritesCounted (letGo b s) := by
  have lowered := hs.of_apart (modifyBuffer_keeps s b fun r => { r with holdCount := r.holdCount - 1 }) (by decide)
  unfold Machine.letGo
  dsimp only
  split
  · apply WritesCounted.settleClosing
    split
    · exact lowered.of_apart (modifyBuffer_keeps _ b emptied) (by decide)
    · exact lowered
  · exact lowered

theorem WritesCounted.goLost {s : State} (hs : WritesCounted s) (n : Fin 32) (cause : Nat) :
    WritesCounted (goLost n cause s) := by
  refine WritesCounted.of_apart ?_ (modifyRing_keeps _ n purged) (by decide)
  refine WritesCounted.of_apart ?_ (raise_keeps _ _ _ _) (by decide)
  exact hs.modifyContext n fun _ => rfl

theorem WritesCounted.enterClosing {s : State} (hs : WritesCounted s) (n : Fin 32) :
    WritesCounted (enterClosing n s) := by
  have closing : WritesCounted (Machine.modifyContext n closingContext s) := hs.modifyContext n fun _ => rfl
  have released := closing.of_apart
    (Keeps.forEach (releaseBuffer n) (fun i t => releaseBuffer_keeps n i t) (indexes 8) _) (by decide)
  have aborted := released.of_apart (abortGeneratorOf_keeps n _) (by decide)
  exact (aborted.of_apart (misrouteWaiting_keeps n _) (by decide)).settleClosing n

theorem WritesCounted.entryParityFailure {s : State} (hs : WritesCounted s) (n : Fin 32) :
    WritesCounted (entryParityFailure n s) :=
  (hs.of_apart (majorFault_keeps _ _ _ _ s) (by decide)).enterClosing n

theorem WritesCounted.checkEntry {s : State} (hs : WritesCounted s) (n : Fin 32) : WritesCounted (checkEntry n s) := by
  unfold Machine.checkEntry
  split
  · exact hs.entryParityFailure n
  · exact hs

/-! ## The stream context at a frame start and in time (R41 to R50) -/

theorem WritesCounted.gapCheck {s : State} (hs : WritesCounted s) (n : Fin 32) (frame : BitVec 16) :
    WritesCounted (gapCheck n frame s) := by
  have counted : WritesCounted
      (if frameGap (fieldsOf s n) s.contexts[n].lastFrameNumber frame then countStream n .gaps s else s) := by
    split
    · exact hs
    · exact hs
  exact counted.modifyContext n fun _ => rfl

theorem WritesCounted.judgeToLock {s : State} (hs : WritesCounted s) (n : Fin 32) (interval : Nat) :
    WritesCounted (judgeToLock n interval s) := by
  have raised : WritesCounted (Machine.modifyContext n (fun c => { c with lockProgress := c.lockProgress + 1 }) s) :=
    hs.modifyContext n fun _ => rfl
  unfold Machine.judgeToLock
  dsimp only
  split
  · split
    · refine WritesCounted.of_apart ?_ (raise_keeps _ _ _ _) (by decide)
      exact raised.modifyContext n fun _ => rfl
    · exact raised
  · exact hs.modifyContext n fun _ => rfl

theorem WritesCounted.judgeCadence {s : State} (hs : WritesCounted s) (n : Fin 32) (interval : Nat) :
    WritesCounted (judgeCadence n interval s) := by
  have counted : WritesCounted
      (countStream n .cadenceErrors (Machine.modifyContext n (fun c => { c with cadenceRun := c.cadenceRun + 1 }) s)) := by
    refine WritesCounted.of_apart ?_ (countStream_keeps _ n _) (by decide)
    exact hs.modifyContext n fun _ => rfl
  unfold Machine.judgeCadence
  dsimp only
  split
  · exact hs.modifyContext n fun _ => rfl
  · split
    · exact counted.goLost n 1
    · exact counted

theorem WritesCounted.judgeInterval {s : State} (hs : WritesCounted s) (n : Fin 32) (interval : Nat) :
    WritesCounted (judgeInterval n interval s) := by
  unfold Machine.judgeInterval
  split
  · exact hs.judgeToLock n interval
  · exact hs.judgeToLock n interval
  · exact hs.judgeCadence n interval
  · exact hs
  · exact hs

theorem writesOutstanding_captured (p : RefParams) (c : StreamContext) :
    (captured p c).writesOutstanding = c.writesOutstanding := by
  unfold captured
  split
  · rfl
  · rfl

theorem WritesCounted.frameStartContext {s : State} (hs : WritesCounted s) (n : Fin 32) (frame : BitVec 16) :
    WritesCounted (frameStartContext n frame s) := by
  have cleared : WritesCounted (Machine.modifyContext n (fun c => { c with refusing := false }) s) :=
    hs.modifyContext n fun _ => rfl
  have taken := (cleared.gapCheck n frame).modifyContext n (writesOutstanding_captured s.reference.params)
  have params : (Machine.gapCheck n frame
      (Machine.modifyContext n (fun c => { c with refusing := false }) s)).reference = s.reference :=
    gapCheck_keeps n frame _ .reference (by decide)
  unfold Machine.frameStartContext
  dsimp only
  rw [params]
  split
  · exact taken.judgeInterval n _
  · exact taken

theorem WritesCounted.judgeActivity {s : State} (hs : WritesCounted s) (n : Fin 32) :
    WritesCounted (judgeActivity n s) := by
  unfold Machine.judgeActivity
  split
  · split
    · exact hs.goLost n 0
    · exact hs.modifyContext n fun _ => rfl
  · exact hs

theorem WritesCounted.overflowInterval {s : State} (hs : WritesCounted s) (n : Fin 32) :
    WritesCounted (overflowInterval n s) := by
  unfold Machine.overflowInterval
  split
  · refine WritesCounted.of_apart ?_ (raise_keeps _ _ _ _) (by decide)
    exact hs.modifyContext n fun _ => rfl
  · exact hs

theorem WritesCounted.countTick {s : State} (hs : WritesCounted s) (n : Fin 32) : WritesCounted (countTick n s) := by
  refine hs.modifyContext n fun c => ?_
  unfold tickedContext
  split
  · rfl
  · rfl

/-! ## The append to the write queue (R53, R61) -/

/-- R53, R61: one more entry that names the stream, and one more write outstanding. -/
theorem WritesCounted.appendWrite {s : State} (hs : WritesCounted s) (n : Fin 32) (i : Fin 8) (b : Burst)
    (last : Bool) : WritesCounted (appendWrite n i b last s) := by
  refine WritesCounted.of_apart ?_ (tapStream_keeps n b.kind b.payload _) (by decide)
  intro m
  have counted := hs m
  show (modifyAt s.contexts n _)[m].writesOutstanding =
    ((s.writeQueue ++ [writeEntryOf s n i b last]).filter fun e => e.stream == m).length
  rw [modifyAt_get, List.filter_append, List.length_append, ← counted]
  by_cases same : m = n
  · subst same
    simp [writeEntryOf]
  · simp [writeEntryOf, same, Ne.symm same]

theorem WritesCounted.sealFrame {s : State} (hs : WritesCounted s) (n : Fin 32) (i : Fin 8) (b : Burst) :
    WritesCounted (sealFrame n i b s) :=
  (hs.of_apart (modifyBuffer_keeps s ⟨n, i⟩ (sealedRecord b)) (by decide)).appendWrite n i b true

theorem WritesCounted.claimTarget {s : State} (hs : WritesCounted s) (n : Fin 32) (i : Fin 8) (b : Burst) :
    WritesCounted (claimTarget n i b s) := by
  have counted : WritesCounted (if (bufferOf s ⟨n, i⟩).state = .ready then countStream n .dropped s else s) := by
    split
    · exact hs
    · exact hs
  have filled := (counted.of_apart
      (modifyBuffer_keeps _ ⟨n, i⟩ (filledRecord s.contexts[n].fillTagCounter b.frameNumber)) (by decide)).modifyContext
    n (f := fun c => { c with fillTagCounter := c.fillTagCounter + 1#8 }) fun _ => rfl
  unfold Machine.claimTarget
  dsimp only
  split
  · exact filled.sealFrame n i b
  · exact filled.appendWrite n i b false

theorem WritesCounted.refuseFrame {s : State} (hs : WritesCounted s) (n : Fin 32) : WritesCounted (refuseFrame n s) := by
  refine WritesCounted.of_apart ?_ (raise_keeps _ _ _ _) (by decide)
  exact (hs.of_apart (countStream_keeps s n .refused) (by decide)).modifyContext n fun _ => rfl

theorem WritesCounted.ringFrameStart {s : State} (hs : WritesCounted s) (n : Fin 32) (b : Burst) :
    WritesCounted (ringFrameStart n b s) := by
  have abandoned : WritesCounted
      (match fillingBuffer s n with
       | none => s
       | some i => abandon ⟨n, i⟩ 4 s) := by
    split
    · exact hs
    · exact hs.of_apart (abandon_keeps _ 4 s) (by decide)
  unfold Machine.ringFrameStart
  dsimp only
  split
  · exact abandoned.of_apart (damage_keeps n _ _) (by decide)
  · split
    · exact abandoned.claimTarget n _ b
    · exact abandoned.refuseFrame n

theorem WritesCounted.ringContinue {s : State} (hs : WritesCounted s) (n : Fin 32) (b : Burst) :
    WritesCounted (ringContinue n b s) := by
  unfold Machine.ringContinue
  split
  · exact hs
  · split
    · exact hs.of_apart (abandon_keeps _ _ s) (by decide)
    · split
      · exact hs.sealFrame n _ b
      · exact (hs.of_apart (modifyBuffer_keeps s _ _) (by decide)).appendWrite n _ b false

theorem WritesCounted.acceptBurst {s : State} (hs : WritesCounted s) (n : Fin 32) (b : Burst) :
    WritesCounted (acceptBurst n b s) := by
  unfold Machine.acceptBurst
  split
  · exact (hs.frameStartContext n b.frameNumber).ringFrameStart n b
  · exact hs.ringContinue n b

/-! ## The dispatcher (R8 to R11) -/

theorem WritesCounted.finishBurst {s : State} (hs : WritesCounted s) (p : Fin 4) : WritesCounted (finishBurst p s) :=
  hs.of_apart (finishBurst_keeps s p) (by decide)

theorem WritesCounted.decideMedia {s : State} (hs : WritesCounted s) (p : Fin 4) (b : Burst) :
    WritesCounted (decideMedia p b s) := by
  have checked := hs.checkEntry (streamOfTag b.tag)
  unfold Machine.decideMedia
  split
  · exact hs.finishBurst p
  · unfold routeMedia
    split
    · split
      · exact (checked.finishBurst p).acceptBurst _ b
      · exact checked
    · exact (checked.finishBurst p).of_apart (misroute_keeps p _) (by decide)

theorem WritesCounted.decideBurst {s : State} (hs : WritesCounted s) (p : Fin 4) (b : Burst) :
    WritesCounted (decideBurst p b s) := by
  unfold Machine.decideBurst
  split
  · exact (hs.finishBurst p).of_apart (intakeRequest_keeps p b _) (by decide)
  · exact hs.decideMedia p b
  · exact hs.decideMedia p b
  · exact hs.decideMedia p b
  · exact hs.decideMedia p b
  · exact hs.finishBurst p
  · exact hs.finishBurst p

theorem WritesCounted.dispatch {s : State} (hs : WritesCounted s) : WritesCounted (dispatch s) := by
  unfold Machine.dispatch
  split
  · split
    · exact hs
    · split
      · exact hs
      · exact hs.decideBurst _ _
  · exact hs

theorem WritesCounted.retryWaiting {s : State} (hs : WritesCounted s) : WritesCounted (retryWaiting s) := by
  have free : WritesCounted { s with dispatcher := { s.dispatcher with waiting := none } } := hs
  unfold Machine.retryWaiting
  split
  · split
    · exact hs
    · split
      · exact free
      · exact free.decideBurst _ _
  · exact hs

/-! ## A slot at a tick (R87): the let-go alone reaches the contexts -/

theorem WritesCounted.releaseCurrent {s : State} (hs : WritesCounted s) (k : Fin 16) :
    WritesCounted (releaseCurrent k s) := by
  unfold Machine.releaseCurrent
  split
  · exact hs
  · exact (hs.letGo _).of_apart (modifySlot_keeps _ k _) (by decide)

theorem WritesCounted.substitute {s : State} (hs : WritesCounted s) (k : Fin 16) (c : SubstCause) :
    WritesCounted (substitute k c s) := by
  have left := (hs.releaseCurrent k).of_apart
    (modifySlot_keeps _ k fun t => { t with state := .subst, holdTimer := 0, cause := some c }) (by decide)
  have told := (left.of_apart (countSlot_keeps _ k 1 .substitutes) (by decide)).of_apart
    (raiseSubstitute_keeps k s.slots[k].state c _) (by decide)
  unfold Machine.substitute
  dsimp only
  split
  · exact told
  · exact told.of_apart (emitSubstitute_keeps k _) (by decide)

theorem WritesCounted.takeNew {s : State} (hs : WritesCounted s) (k : Fin 16) (b : BufferName) :
    WritesCounted (takeNew k b s) := by
  have held := (hs.releaseCurrent k).of_apart (takeHold_keeps b _) (by decide)
  exact ((held.of_apart (modifySlot_keeps _ k _) (by decide)).of_apart (countSlot_keeps _ k _ .skips)
    (by decide)).of_apart (emitFrame_keeps k b false _) (by decide)

theorem WritesCounted.repeatFrame {s : State} (hs : WritesCounted s) (k : Fin 16) (st : SlotState) (timer : Nat)
    (b : BufferName) : WritesCounted (repeatFrame k st timer b s) :=
  hs.of_apart (repeatFrame_keeps k st timer b s) (by decide)

theorem WritesCounted.chooseLocked {s : State} (hs : WritesCounted s) (k : Fin 16) (n : Fin 32) :
    WritesCounted (chooseLocked k n s) := by
  unfold Machine.chooseLocked
  dsimp only
  split
  · split
    · exact hs.substitute k _
    · split
      · exact hs.substitute k _
      · exact hs.repeatFrame k _ _ _
  · split
    · exact hs.takeNew k _
    · split
      · exact hs.substitute k _
      · split
        · exact hs.substitute k _
        · exact hs.repeatFrame k _ _ _

theorem WritesCounted.chooseUnlocked {s : State} (hs : WritesCounted s) (k : Fin 16) :
    WritesCounted (chooseUnlocked k s) := by
  unfold Machine.chooseUnlocked
  dsimp only
  split
  · exact hs.substitute k _
  · split
    · split
      · exact hs.of_apart (modifySlot_keeps s k _) (by decide)
      · split
        · exact hs.substitute k _
        · exact hs.repeatFrame k _ _ _
    · split
      · exact hs.substitute k _
      · split
        · exact hs.substitute k _
        · exact hs.repeatFrame k _ _ _

theorem WritesCounted.choose {s : State} (hs : WritesCounted s) (k : Fin 16) (failed : Bool) :
    WritesCounted (choose k failed s) := by
  unfold Machine.choose
  dsimp only
  split
  · exact hs.substitute k _
  · split
    · split
      · exact hs.substitute k _
      · split
        · exact hs.substitute k _
        · exact hs.substitute k _
        · exact hs.chooseLocked k _
        · exact hs.chooseUnlocked k
        · exact hs.chooseUnlocked k
    · exact (hs.releaseCurrent k).of_apart (modifySlot_keeps _ k _) (by decide)

theorem WritesCounted.expireHold {s : State} (hs : WritesCounted s) (k : Fin 16) : WritesCounted (expireHold k s) := by
  unfold Machine.expireHold
  split
  · exact (hs.of_apart (modifySlot_keeps s k _) (by decide)).substitute k _
  · exact hs

theorem WritesCounted.routeParityFailure {s : State} (hs : WritesCounted s) (k : Fin 16) :
    WritesCounted (routeParityFailure k s) :=
  (hs.of_apart (modifyRoute_keeps s k _) (by decide)).of_apart (majorFault_keeps _ _ _ _ _) (by decide)

theorem WritesCounted.adoptPending {s : State} (hs : WritesCounted s) (k : Fin 16) :
    WritesCounted (adoptPending k s) := by
  unfold Machine.adoptPending
  split
  · exact hs
  · split
    · unfold adoptEntry
      dsimp only
      split
      · exact hs
      · exact hs
    · exact hs.routeParityFailure k

theorem WritesCounted.slotWork {s : State} (hs : WritesCounted s) (k : Fin 16) : WritesCounted (slotWork k s) := by
  have adopted := ((hs.expireHold k).adoptPending k).of_apart (cutIfLate_keeps k _) (by decide)
  have checked : WritesCounted (checkActive k (cutIfLate k (Machine.adoptPending k (Machine.expireHold k s)))) := by
    unfold checkActive
    split
    · exact adopted.routeParityFailure k
    · exact adopted
  exact (checked.choose k _).of_apart (countDownHold_keeps k _) (by decide)

/-! ## The generator and the tick (R20, R157, R158) -/

theorem WritesCounted.takeGenerated {s : State} (hs : WritesCounted s) : WritesCounted (takeGenerated s) := by
  unfold Machine.takeGenerated
  split
  · split
    · exact (hs.acceptBurst _ _).of_apart (afterTaking_keeps _ _) (by decide)
    · exact hs
  · exact hs

theorem WritesCounted.startGeneratedFrame {s : State} (hs : WritesCounted s) :
    WritesCounted (startGeneratedFrame s) := by
  have record (g : Generator) : WritesCounted { s with generator := g } := hs
  unfold Machine.startGeneratedFrame
  split
  · split
    · exact hs
    · split
      · exact ((record _).of_apart (offerBurst_keeps _ _) (by decide)).takeGenerated
      · exact (record _).entryParityFailure _
  · exact hs

theorem WritesCounted.doTickWork {s : State} (hs : WritesCounted s) (w : TickWork) : WritesCounted (doTickWork w s) := by
  cases w with
  | count n => exact hs.countTick n
  | judge n => exact hs.judgeActivity n
  | slot k => exact hs.slotWork k
  | generator => exact hs.startGeneratedFrame

theorem WritesCounted.makeTick {s : State} (hs : WritesCounted s) (order : List TickWork) :
    WritesCounted (makeTick order s) := by
  have judged : WritesCounted (forEach (indexes 32) Machine.judgeActivity s) :=
    forEach_keeps WritesCounted _ (fun n _ h => h.judgeActivity n) _ s hs
  have finished : WritesCounted (finishTick s) := forEach_keeps WritesCounted _ (fun k _ h => h.expireHold k) _ _ judged
  have numbered := finished.of_apart (numberTick_keeps _) (by decide)
  exact forEach_keeps WritesCounted _ (fun w _ h => h.doTickWork w) _ _ numbered

/-! ## The rows of the reference unit (R22 to R27) -/

theorem WritesCounted.whileClocked {s : State} (hs : WritesCounted s) {f : State → State} (hf : WritesCounted (f s)) :
    WritesCounted (whileClocked f s) := by
  unfold Machine.whileClocked
  split
  · exact hf
  · exact hs

theorem WritesCounted.freeExpiry {s : State} (hs : WritesCounted s) (order : List TickWork) :
    WritesCounted (freeExpiry order s) := by
  by_cases due : freeExpiryDue s.reference = true
  · rw [freeExpiry_due due]
    exact hs.makeTick order
  · rwa [freeExpiry_idle due]

theorem WritesCounted.closeWindow {s : State} (hs : WritesCounted s) (order : List TickWork) :
    WritesCounted (closeWindow order s) := by
  by_cases due : windowCloseDue s.reference = true
  · rw [closeWindow_due due]
    refine WritesCounted.of_apart ?_ (raiseAtClose_keeps _ _ _) (by decide)
    exact hs.makeTick order
  · rwa [closeWindow_idle due]

theorem WritesCounted.searchFlywheel {s : State} (hs : WritesCounted s) (order : List TickWork) :
    WritesCounted (searchFlywheel order s) := by
  by_cases due : flywheelDue s.reference = true
  · rw [searchFlywheel_due due]
    exact hs.makeTick order
  · rwa [searchFlywheel_idle due]

theorem WritesCounted.edgeWhileFollowing {s : State} (hs : WritesCounted s) (order : List TickWork) :
    WritesCounted (edgeWhileFollowing order s) := by
  rcases edgeWhileFollowing_cases order s with stray | ticks | ignored
  · rw [stray]
    exact hs
  · rw [ticks, edgeInWindow_eq]
    split
    · exact hs.makeTick order
    · exact hs.makeTick order
  · rwa [ignored]

theorem WritesCounted.edgeWhileSearching {s : State} (hs : WritesCounted s) (order : List TickWork) :
    WritesCounted (edgeWhileSearching order s) := by
  have tracking : WritesCounted (raiseRefState .tracking (modifyReference regained s)) := hs
  unfold Machine.edgeWhileSearching
  split
  · unfold regain
    dsimp only
    split
    · exact (tracking.makeTick order).of_apart (modifyReference_keeps _ _) (by decide)
    · exact tracking
  · exact hs

theorem WritesCounted.seeEdge {s : State} (hs : WritesCounted s) (order : List TickWork) :
    WritesCounted (seeEdge order s) := by
  unfold Machine.seeEdge
  split
  · exact hs
  · exact hs.edgeWhileFollowing order
  · exact hs.edgeWhileFollowing order
  · exact hs.edgeWhileSearching order

/-! ## The write at the head of the queue (R72, R73, R133, R135) -/

/-- R133: the head write begins; its stream stays. -/
theorem length_filter_startWrite (n : Fin 32) (q : List WriteEntry) :
    ((startWrite q).filter fun e => e.stream == n).length = (q.filter fun e => e.stream == n).length := by
  cases q with
  | nil => rfl
  | cons e rest =>
    simp only [startWrite, List.filter_cons]
    split
    · rfl
    · rfl

theorem WritesCounted.grantMemory {s : State} (hs : WritesCounted s) : WritesCounted (grantMemory s) := by
  unfold Machine.grantMemory
  split
  · split
    · exact hs
    · rename_i a _
      cases a with
      | ingress => exact fun n => (hs n).trans (length_filter_startWrite n s.writeQueue).symm
      | egress k => exact hs
      | mgmt => exact hs
      | refresh => exact hs
  · exact hs

theorem WritesCounted.ringCompletion {s : State} (hs : WritesCounted s) (e : WriteEntry) :
    WritesCounted (ringCompletion e s) := by
  unfold Machine.ringCompletion
  dsimp only
  split
  · unfold completeFrame
    dsimp only
    refine WritesCounted.of_apart ?_ (countStream_keeps _ _ _) (by decide)
    refine WritesCounted.of_apart ?_ (modifyBuffer_keeps _ _ _) (by decide)
    exact hs.modifyContext e.stream fun _ => rfl
  · exact hs

/-- R53, R133: the head entry leaves the queue, and its stream has one write less outstanding. -/
theorem writesCounted_afterHead {s : State} {e : WriteEntry} {rest : List WriteEntry} (hs : WritesCounted s)
    (hq : s.writeQueue = e :: rest) (memory : FrameMemory) :
    WritesCounted
      (modifyContext e.stream (fun c => { c with writesOutstanding := c.writesOutstanding - 1 })
        (endAccess { s with memory := memory, writeQueue := rest })) := by
  intro n
  have counted := hs n
  rw [hq, List.filter_cons] at counted
  show (modifyAt s.contexts e.stream _)[n].writesOutstanding = (rest.filter fun w => w.stream == n).length
  rw [modifyAt_get]
  by_cases same : n = e.stream
  · subst same
    simp only [beq_self_eq_true, if_true, List.length_cons] at counted
    rw [if_pos rfl]
    dsimp only
    omega
  · rw [if_neg same]
    simpa [Ne.symm same] using counted

theorem WritesCounted.completeWrite {s : State} {e : WriteEntry} {rest : List WriteEntry} (hs : WritesCounted s)
    (hq : s.writeQueue = e :: rest) : WritesCounted (completeWrite e rest s) :=
  (((writesCounted_afterHead hs hq _).ringCompletion e).settleClosing e.stream).of_apart (judgeAccess_keeps _ _ _ _ _)
    (by decide)

theorem writeInProgress_queue {s : State} {e : WriteEntry} {rest : List WriteEntry}
    (h : writeInProgress s = some (e, rest)) : s.writeQueue = e :: rest := by
  unfold writeInProgress at h
  split at h
  · split at h
    · cases h
    · cases h
      assumption
  · cases h

theorem writesCounted_of_writeCompletion {s t : State} (hs : WritesCounted s) (h : execWriteCompletion s = .next t) :
    WritesCounted t := by
  unfold execWriteCompletion at h
  split at h
  · cases h; exact hs
  · split at h
    · cases h; exact hs
    · rename_i inProgress
      split at h
      · cases h; exact hs.completeWrite (writeInProgress_queue inProgress)
      · cases h

/-! ## The resets (R186) and the reply that brings one (R185) -/

theorem writesCounted_resetBlocks (s : State) : WritesCounted (resetBlocks s) := writesCounted_reset

theorem WritesCounted.beginPinReset {s : State} (hs : WritesCounted s) : WritesCounted (beginPinReset s) := by
  unfold Machine.beginPinReset
  split
  · exact hs
  · exact writesCounted_resetBlocks s

theorem WritesCounted.burstDone {s : State} (hs : WritesCounted s) (p : Fin 4) (from_ : Participant) (b : Burst) :
    WritesCounted (burstDone p from_ b s) := by
  cases from_ with
  | slotEntry k => exact hs.of_apart (burstDone_slot_keeps p k b s) (by decide)
  | slotAbort k => exact hs
  | reply =>
    show WritesCounted (replyDone s)
    unfold replyDone
    split
    · exact hs
    · split
      · exact writesCounted_resetBlocks s
      · exact hs

theorem WritesCounted.grantEgress {s : State} (hs : WritesCounted s) (p : Fin 4) : WritesCounted (grantEgress p s) := by
  have taken (i : Fin 17) : WritesCounted (takeBurst p i s) := hs.of_apart (takeBurst_keeps p i s) (by decide)
  unfold Machine.grantEgress
  split
  · split
    · exact hs
    · split
      · exact hs
      · split
        · exact (taken _).of_apart (startSending_keeps p _ _ _) (by decide)
        · exact ((taken _).of_apart (countEgress_keeps _ p _) (by decide)).burstDone p _ _
  · exact hs

theorem WritesCounted.completeEgress {s : State} (hs : WritesCounted s) (p : Fin 4) :
    WritesCounted (completeEgress p s) := by
  unfold Machine.completeEgress
  split
  · exact hs
  · exact ((hs.of_apart (modifyEgress_keeps s p _) (by decide)).of_apart (countEgress_keeps _ p _) (by decide)).burstDone
      p _ _

/-! ## Requests that reach the contexts (R39, R51, R150) -/

/-- A request's path touches neither the contexts nor the write queue (R179, R182). -/
theorem WritesCounted.runRequest {s : State} (hs : WritesCounted s) {body : RequestBody}
    (hb : ∀ ops u, WritesCounted u → WritesCounted (body ops u).1) (code : BitVec 8) :
    WritesCounted (runRequest code body s) := by
  rcases runRequest_cases code body s with same | ⟨p, rest, _, run⟩
  · rwa [same]
  · rw [run]
    exact (hb _ _ (hs.of_apart (takeRequest_keeps s rest) (by decide))).of_apart (answerRequest_keeps p _ _) (by decide)

theorem writesCounted_onStream {body : Fin 32 → RequestBody}
    (hb : ∀ n ops u, WritesCounted u → WritesCounted (body n ops u).1) (ops : List Word) (s : State)
    (hs : WritesCounted s) : WritesCounted (onStream body ops s).1 := by
  unfold onStream
  split
  · exact hs
  · exact hb _ ops s hs

theorem writesCounted_enableStream (ops : List Word) (s : State) (hs : WritesCounted s) :
    WritesCounted (bodyEnableStream ops s).1 := by
  refine writesCounted_onStream (fun n _ u hu => ?_) ops s hs
  split
  · exact hu
  · split
    · rcases checked_cases (enableChecks n u) u (modifyContext n enabledContext u, .ok []) with good | ⟨a, _, bad⟩
      · rw [good]
        exact hu.modifyContext n fun _ => rfl
      · rwa [bad]
    · exact hu.of_apart (majorFault_keeps _ _ _ _ u) (by decide)

theorem writesCounted_disableStream (ops : List Word) (s : State) (hs : WritesCounted s) :
    WritesCounted (bodyDisableStream ops s).1 := by
  refine writesCounted_onStream (fun n _ u hu => ?_) ops s hs
  split
  · dsimp only
    exact hu.enterClosing n
  · exact hu

theorem writesCounted_snapshotCounters (ops : List Word) (s : State) (hs : WritesCounted s) :
    WritesCounted (bodySnapshotCounters ops s).1 := by
  unfold bodySnapshotCounters
  split
  · exact hs
  · unfold takeSnapshot
    dsimp only
    split
    · exact hs.mapContexts (f := withoutExtremes) fun _ => rfl
    · exact hs

/-! ## Commands and steps -/

theorem writesCounted_of_whileRunning {s t : State} {f : State → State} (hs : WritesCounted s)
    (hf : WritesCounted (f s)) (h : Host.Outcome.next (φ := Fault) (ρ := Refusal) (whileRunning s f) = .next t) :
    WritesCounted t := by
  injection h with h
  rw [← h]
  unfold whileRunning
  split
  · exact hs
  · exact hf

/-- The law at each command that can touch the contexts or the write queue; every other command leaves both. -/
theorem writesCounted_exec (c : Instr) (s t : State) (hs : WritesCounted s) (h : exec c s = .next t) :
    WritesCounted t := by
  by_cases apart : Field.contexts ∉ touches c ∧ Field.writeQueue ∉ touches c
  · exact hs.of_apart (exec_keeps h) apart
  · cases c with
    | powerOnReset memsz cells bad => cases h; exact writesCounted_resetBlocks s
    | pinReset memsz => cases h; exact writesCounted_resetBlocks s
    | pinResetBegin => cases h; exact hs.beginPinReset
    | dispatchBurst => exact writesCounted_of_whileRunning hs hs.dispatch h
    | waitingBurstAccepted => exact writesCounted_of_whileRunning hs hs.retryWaiting h
    | memoryGrant => exact writesCounted_of_whileRunning hs hs.grantMemory h
    | writeCompletion => exact writesCounted_of_writeCompletion hs h
    | refEdge order => exact writesCounted_of_whileRunning hs (hs.whileClocked (hs.seeEdge order)) h
    | freePeriodExpiry order => exact writesCounted_of_whileRunning hs (hs.whileClocked (hs.freeExpiry order)) h
    | windowClose order => exact writesCounted_of_whileRunning hs (hs.whileClocked (hs.closeWindow order)) h
    | searchingFlywheel order => exact writesCounted_of_whileRunning hs (hs.whileClocked (hs.searchFlywheel order)) h
    | activityJudgement n => exact writesCounted_of_whileRunning hs (hs.judgeActivity n) h
    | intervalOverflow n => exact writesCounted_of_whileRunning hs (hs.overflowInterval n) h
    | holdExpired k => exact writesCounted_of_whileRunning hs (hs.expireHold k) h
    | generatorFrameStart => exact writesCounted_of_whileRunning hs hs.startGeneratedFrame h
    | generatorBurstTaken => exact writesCounted_of_whileRunning hs hs.takeGenerated h
    | egressGrant p => exact writesCounted_of_whileRunning hs (hs.grantEgress p) h
    | egressBurstCompletion p => exact writesCounted_of_whileRunning hs (hs.completeEgress p) h
    | enableStream => exact writesCounted_of_whileRunning hs (hs.runRequest writesCounted_enableStream _) h
    | disableStream => exact writesCounted_of_whileRunning hs (hs.runRequest writesCounted_disableStream _) h
    | snapshotCounters => exact writesCounted_of_whileRunning hs (hs.runRequest writesCounted_snapshotCounters _) h
    | _ => exact absurd (by simp [touches]) apart

/-- R42: a timebase unit counts in a context its interval alone. -/
theorem writesOutstanding_unitContext (c : StreamContext) : (unitContext c).writesOutstanding = c.writesOutstanding := by
  unfold unitContext
  split
  · rfl
  · rfl

theorem writesCounted_timeUnit (s : State) (hs : WritesCounted s) : WritesCounted (timeUnit s) := by
  have counted : WritesCounted (countUnit s) := hs.mapContexts writesOutstanding_unitContext
  exact (hs.whileClocked counted).of_apart (takeUpset_keeps _) (by decide)

/-- Settles O58: every command, and a timebase unit, keeps each stream's writes outstanding the number of its entries. -/
theorem writesStayCounted : Obligations.WritesStayCounted :=
  keptByStep_of (fun _ _ hs => hs) writesCounted_exec writesCounted_timeUnit

end Sys2Proof.Machine
end

section
/-! PROOFS. The stream context: the entry to LOST (R49, R75), ACTIVITY_JUDGEMENT (R47), INTERVAL_OVERFLOW (R42), and the work at a
frame start (R41 to R50). -/

namespace Sys2Proof.Machine

/-! ## Reading and changing one context -/

theorem modifyContext_same (n : Fin 32) (f : StreamContext → StreamContext) (s : State) :
    (modifyContext n f s).contexts[n] = f s.contexts[n] := modifyAt_same _ _ _

theorem modifyContext_other {n m : Fin 32} (f : StreamContext → StreamContext) (s : State) (h : m ≠ n) :
    (modifyContext n f s).contexts[m] = s.contexts[m] := modifyAt_other _ _ _ _ h

/-- Two changes of one context are one change. -/
theorem modifyContext_modifyContext (n : Fin 32) (f g : StreamContext → StreamContext) (s : State) :
    modifyContext n g (modifyContext n f s) = modifyContext n (fun c => g (f c)) s :=
  congrArg (fun contexts => { s with contexts := contexts }) (modifyAt_modifyAt s.contexts n f g)

/-- R145: the counters of a stream after one of them is incremented. -/
theorem countStream_same (n : Fin 32) (c : StreamCounter) (s : State) :
    (countStream n c s).live.streams[n] = bumpStream s.counterMode c s.live.streams[n] := modifyAt_same _ _ _

/-! ## The purge and the entry to LOST (R49, R75) -/

theorem Buffer.complete_iff (b : Buffer) : b.complete = true ↔ b.state = .ready ∨ b.state = .shown := by
  unfold Buffer.complete
  cases b.state <;> simp

/-- R75: a complete buffer that no slot holds becomes EMPTY. -/
theorem purged_eq (b : Buffer) :
    purged b = if (b.state = .ready ∨ b.state = .shown) ∧ b.holdCount = 0 then emptied b else b := by
  refine if_congr ?_ rfl rfl
  rw [Bool.and_eq_true, beq_iff_eq, Buffer.complete_iff]

section
variable (n : Fin 32) (cause : Nat) (s : State)

theorem goLost_contexts :
    (goLost n cause s).contexts =
      s.contexts.set n
        { s.contexts[n] with
          state := .lost, lockProgress := 0, cadenceRun := 0, windowTicks := 0, windowFrames := 0, activityDue := false } :=
  rfl

theorem goLost_latches : (goLost n cause s).latches = (raise .streamLost n.val cause s).latches := rfl

theorem goLost_buffer (i : Fin 8) :
    (goLost n cause s).rings[n][i] =
      if (s.rings[n][i].state = .ready ∨ s.rings[n][i].state = .shown) ∧ s.rings[n][i].holdCount = 0 then
        emptied s.rings[n][i]
      else s.rings[n][i] := by
  have ring : (goLost n cause s).rings[n] = mapTable purged s.rings[n] := modifyAt_same s.rings n (mapTable purged)
  rw [ring, mapTable_get, purged_eq]

theorem goLost_ring_other {m : Fin 32} (h : m ≠ n) : (goLost n cause s).rings[m] = s.rings[m] :=
  modifyAt_other s.rings n m (mapTable purged) h

end

/-! ## ACTIVITY_JUDGEMENT (R47) and INTERVAL_OVERFLOW (R42) -/

theorem judgeActivity_low {n : Fin 32} {s : State} (due : judgementDue s n = true)
    (few : s.contexts[n].windowFrames < s.entries[n].fields.activityThreshold) : judgeActivity n s = goLost n 0 s := by
  rw [judgeActivity, if_pos due]
  exact if_pos few

theorem judgeActivity_enough {n : Fin 32} {s : State} (due : judgementDue s n = true)
    (enough : s.entries[n].fields.activityThreshold ≤ s.contexts[n].windowFrames) :
    judgeActivity n s =
      modifyContext n (fun c => { c with windowTicks := 0, windowFrames := 0, activityDue := false }) s := by
  rw [judgeActivity, if_pos due]
  exact if_neg (Nat.not_lt.mpr enough)

theorem exec_activityJudgement {s : State} (running : s.resetHeld = none) (n : Fin 32) :
    exec (.activityJudgement n) s = .next (judgeActivity n s) := congrArg _ (whileRunning_running running _)

theorem exec_intervalOverflow {s : State} (running : s.resetHeld = none) (n : Fin 32) :
    exec (.intervalOverflow n) s = .next (overflowInterval n s) := congrArg _ (whileRunning_running running _)

/-- Settles O19: the judgement and the overflow, each due or not, and what the entry to LOST leaves. -/
theorem streamTimeRows : Obligations.StreamTimeRows := by
  intro n s running
  rw [exec_activityJudgement running, exec_intervalOverflow running]
  refine ⟨fun locked mark => ?_, fun idle => ?_, fun mark => ?_, fun clear => ?_, ?_⟩
  · have due : judgementDue s n = true := (judgementDue_iff s n).mpr ⟨locked, mark⟩
    exact ⟨fun few => congrArg _ (judgeActivity_low due few), fun enough => congrArg _ (judgeActivity_enough due enough)⟩
  · have notDue : judgementDue s n = false := by
      rw [← Bool.not_eq_true, judgementDue_iff]
      rintro ⟨locked, mark⟩
      rcases idle with out | clear
      · exact out locked
      · rw [clear] at mark
        cases mark
    rw [judgeActivity_idle notDue]
  · rw [overflowInterval, if_pos mark]
  · rw [overflowInterval, if_neg (by rw [clear]; decide)]
  · refine ⟨?_, goLost_latches n 0 s, goLost_buffer n 0 s, fun m other => ⟨goLost_ring_other n 0 s other, ?_⟩,
      (goLost_keeps n 0 s).mono (by decide)⟩
    · exact modifyContext_same n _ s
    · exact modifyContext_other _ s other

/-! ## The gap check (R50) -/

theorem frameGap_iff (f : StreamFields) (last : Option (BitVec 16)) (frame : BitVec 16) :
    frameGap f last frame = true ↔ f.gapCheck = true ∧ ∃ l, last = some l ∧ frame ≠ l + 1#16 := by
  cases last with
  | none => simp [frameGap]
  | some l => simp [frameGap]

/-- R50: the part with the gap counted, where there is one. -/
def gapCounted (n : Fin 32) (frame : BitVec 16) (s : State) : State :=
  if frameGap (fieldsOf s n) s.contexts[n].lastFrameNumber frame then countStream n .gaps s else s

/-- R50: the condition of the gap as the rule gives it. -/
theorem gapCounted_eq (n : Fin 32) (frame : BitVec 16) (s : State)
    [Decidable (s.entries[n].fields.gapCheck = true ∧
      ∃ last, s.contexts[n].lastFrameNumber = some last ∧ frame ≠ last + 1#16)] :
    gapCounted n frame s =
      if s.entries[n].fields.gapCheck = true ∧ ∃ last, s.contexts[n].lastFrameNumber = some last ∧ frame ≠ last + 1#16 then
        countStream n .gaps s
      else s :=
  if_congr (frameGap_iff _ _ _) rfl rfl

theorem gapCheck_eq (n : Fin 32) (frame : BitVec 16) (s : State) :
    gapCheck n frame s = modifyContext n (fun c => { c with lastFrameNumber := some frame }) (gapCounted n frame s) := rfl

theorem gapCounted_keeps (n : Fin 32) (frame : BitVec 16) (s : State) : Keeps [.live] s (gapCounted n frame s) := by
  unfold gapCounted
  split
  · exact countStream_keeps s n .gaps
  · exact Keeps.refl _ s

theorem gapCounted_contexts (n : Fin 32) (frame : BitVec 16) (s : State) :
    (gapCounted n frame s).contexts = s.contexts := gapCounted_keeps n frame s .contexts (by decide)

/-- R50: the gap check looks at the last frame number of the context alone. -/
theorem gapCounted_modifyContext {n : Fin 32} {f : StreamContext → StreamContext}
    (hf : ∀ c, (f c).lastFrameNumber = c.lastFrameNumber) (frame : BitVec 16) (s : State) :
    gapCounted n frame (modifyContext n f s) = modifyContext n f (gapCounted n frame s) := by
  have last : (modifyContext n f s).contexts[n].lastFrameNumber = s.contexts[n].lastFrameNumber := by
    rw [modifyContext_same, hf]
  unfold gapCounted
  rw [last]
  rw [apply_ite (modifyContext n f)]
  rfl

/-! ## The context's own work at a frame start (R41 to R44) -/

/-- The context after steps 1 to 3 of R41: refusing cleared, the frame number kept, the interval captured under P and T. -/
def startedContext (p : RefParams) (frame : BitVec 16) (c : StreamContext) : StreamContext :=
  captured p { c with refusing := false, lastFrameNumber := some frame }

/-- The part after steps 1 to 3 of R41. -/
def frameStarting (n : Fin 32) (frame : BitVec 16) (s : State) : State :=
  modifyContext n (startedContext s.reference.params frame) (gapCounted n frame s)

theorem frameStarting_eq (n : Fin 32) (frame : BitVec 16) (s : State) :
    frameStarting n frame s =
      { gapCounted n frame s with
        contexts := s.contexts.set n (startedContext s.reference.params frame s.contexts[n]) } := by
  rw [frameStarting, modifyContext, modifyAt, gapCounted_contexts]

/-- R41: with measuring set before, step 4 judges the interval. -/
theorem frameStartContext_eq (n : Fin 32) (frame : BitVec 16) (s : State) :
    frameStartContext n frame s =
      if s.contexts[n].measuring then judgeInterval n s.contexts[n].intervalCounter (frameStarting n frame s)
      else frameStarting n frame s := by
  have checked : gapCheck n frame (modifyContext n (fun c => { c with refusing := false }) s) =
      modifyContext n (fun c => { c with refusing := false, lastFrameNumber := some frame }) (gapCounted n frame s) := by
    rw [gapCheck_eq, gapCounted_modifyContext (f := fun c => { c with refusing := false }) fun _ => rfl,
      modifyContext_modifyContext]
  have params : (modifyContext n (fun c => { c with refusing := false, lastFrameNumber := some frame })
      (gapCounted n frame s)).reference = s.reference := gapCounted_keeps n frame s .reference (by decide)
  unfold frameStartContext
  dsimp only
  rw [checked, params, modifyContext_same, modifyContext_modifyContext, gapCounted_contexts]
  rfl

/-- R41, R43: with measuring clear a measurement begins. -/
theorem startedContext_unmeasured {c : StreamContext} (h : c.measuring = false) (p : RefParams) (frame : BitVec 16) :
    startedContext p frame c =
      { c with refusing := false, lastFrameNumber := some frame, measuring := true, intervalCounter := 0 } :=
  if_neg (by rw [h]; decide)

/-- R43, R44: with measuring set the interval, its extremes and its rate class are recorded. -/
theorem startedContext_measured {c : StreamContext} (h : c.measuring = true) (p : RefParams) (frame : BitVec 16) :
    startedContext p frame c =
      { c with
        refusing := false, lastFrameNumber := some frame, intervalCounter := 0
        lastInterval := some c.intervalCounter
        intervalMin := some (min (c.intervalMin.getD c.intervalCounter) c.intervalCounter)
        intervalMax := some (max (c.intervalMax.getD c.intervalCounter) c.intervalCounter)
        rateClass := some
          (if c.intervalCounter + p.tolerance < p.period then .fast
           else if c.intervalCounter ≤ p.period + p.tolerance then .matched
           else .slow) } := by
  have least : (match c.intervalMin with | none => c.intervalCounter | some m => min m c.intervalCounter) =
      min (c.intervalMin.getD c.intervalCounter) c.intervalCounter := by
    cases c.intervalMin with
    | none => exact (min_self _).symm
    | some m => rfl
  have greatest : (match c.intervalMax with | none => c.intervalCounter | some m => max m c.intervalCounter) =
      max (c.intervalMax.getD c.intervalCounter) c.intervalCounter := by
    cases c.intervalMax with
    | none => exact (max_self _).symm
    | some m => rfl
  rw [← least, ← greatest]
  exact if_pos h

/-! ## The judgement of a measured interval (R45, R46) -/

theorem inWindow_iff (f : StreamFields) (interval : Nat) :
    inWindow f interval = true ↔ f.windowMin ≤ interval ∧ interval ≤ f.windowMax ∧ interval ≠ 0xFFFFFF := by
  simp [inWindow, Config.intervalMax, and_assoc]

section
variable {n : Fin 32} {interval : Nat} {s : State}

theorem judgeInterval_unlocked (h : s.contexts[n].state = .acquiring ∨ s.contexts[n].state = .lost) :
    judgeInterval n interval s = judgeToLock n interval s := by
  unfold judgeInterval
  rcases h with h | h
  · rw [h]
  · rw [h]

theorem judgeInterval_locked (h : s.contexts[n].state = .locked) :
    judgeInterval n interval s = judgeCadence n interval s := by
  unfold judgeInterval
  rw [h]

theorem judgeToLock_progresses (good : inWindow s.entries[n].fields interval = true)
    (below : s.contexts[n].lockProgress + 1 < s.entries[n].fields.lockCount) :
    judgeToLock n interval s = modifyContext n (fun c => { c with lockProgress := c.lockProgress + 1 }) s := by
  unfold judgeToLock
  rw [fieldsOf, if_pos good]
  dsimp only
  rw [modifyContext_same, if_neg (Nat.not_le.mpr below)]

theorem judgeToLock_locks (good : inWindow s.entries[n].fields interval = true)
    (reached : s.entries[n].fields.lockCount ≤ s.contexts[n].lockProgress + 1) :
    judgeToLock n interval s =
      raise .streamLocked n.val 0
        (modifyContext n
          (fun c =>
            { c with
              state := .locked, lockProgress := c.lockProgress + 1, cadenceRun := 0, windowTicks := 0,
              windowFrames := 0, activityDue := false })
          s) := by
  unfold judgeToLock
  rw [fieldsOf, if_pos good]
  dsimp only
  rw [modifyContext_same, if_pos reached, goLocked, modifyContext_modifyContext]

theorem judgeToLock_outside (bad : inWindow s.entries[n].fields interval = false) :
    judgeToLock n interval s = modifyContext n (fun c => { c with lockProgress := 0 }) s :=
  if_neg (by rw [fieldsOf, bad]; decide)

/-- R46: the cadence error counted, before the cadence limit is looked at. -/
def cadenceError (n : Fin 32) (s : State) : State :=
  countStream n .cadenceErrors (modifyContext n (fun c => { c with cadenceRun := c.cadenceRun + 1 }) s)

theorem judgeCadence_outside (bad : inWindow s.entries[n].fields interval = false) :
    judgeCadence n interval s =
      if s.entries[n].fields.cadenceLimit ≤ s.contexts[n].cadenceRun + 1 then goLost n 1 (cadenceError n s)
      else cadenceError n s := by
  have run : (cadenceError n s).contexts[n].cadenceRun = s.contexts[n].cadenceRun + 1 :=
    congrArg StreamContext.cadenceRun (modifyContext_same n _ s)
  rw [← run]
  exact if_neg (by rw [fieldsOf, bad]; decide)

theorem cadenceError_contexts :
    (cadenceError n s).contexts =
      s.contexts.set n { s.contexts[n] with cadenceRun := s.contexts[n].cadenceRun + 1 } := rfl

theorem cadenceError_keeps : Keeps [.contexts, .live] s (cadenceError n s) :=
  (modifyContext_keeps s n _).seq (countStream_keeps _ n _) (by decide)

theorem cadenceError_live :
    (cadenceError n s).live =
      { s.live with
        streams := s.live.streams.set n
          { s.live.streams[n] with cadenceErrors := bump s.counterMode s.live.streams[n].cadenceErrors 1 } } := rfl

/-- R46, R49: at the cadence limit the context is that of the entry to LOST. -/
theorem goLost_cadenceError_contexts :
    (goLost n 1 (cadenceError n s)).contexts =
      s.contexts.set n
        { s.contexts[n] with
          state := .lost, lockProgress := 0, cadenceRun := 0, windowTicks := 0, windowFrames := 0,
          activityDue := false } := by
  have run : (cadenceError n s).contexts[n] =
      { s.contexts[n] with cadenceRun := s.contexts[n].cadenceRun + 1 } := modifyContext_same n _ s
  rw [goLost_contexts, run, cadenceError_contexts, Vector.set_set]

end

/-! ## What the judgement leaves of the context and of the counters (R43 to R46, R50) -/

/-- `d` is the context `c` but for what the judgement of an interval decides (R45, R46, R49). -/
def JudgedFrom (c d : StreamContext) : Prop :=
  ∃ state lockProgress cadenceRun windowTicks windowFrames activityDue,
    d = { c with
      state := state, lockProgress := lockProgress, cadenceRun := cadenceRun, windowTicks := windowTicks,
      windowFrames := windowFrames, activityDue := activityDue }

theorem JudgedFrom.of_eq {c d : StreamContext} (h : d = c) : JudgedFrom c d := ⟨_, _, _, _, _, _, h⟩

theorem judgeToLock_context (n : Fin 32) (interval : Nat) (s : State) :
    JudgedFrom s.contexts[n] (judgeToLock n interval s).contexts[n] := by
  cases window : inWindow s.entries[n].fields interval with
  | false =>
    rw [judgeToLock_outside window, modifyContext_same]
    exact ⟨_, _, _, _, _, _, rfl⟩
  | true =>
    by_cases below : s.contexts[n].lockProgress + 1 < s.entries[n].fields.lockCount
    · rw [judgeToLock_progresses window below, modifyContext_same]
      exact ⟨_, _, _, _, _, _, rfl⟩
    · rw [judgeToLock_locks window (Nat.not_lt.mp below), raise_contexts, modifyContext_same]
      exact ⟨_, _, _, _, _, _, rfl⟩

theorem judgeCadence_context (n : Fin 32) (interval : Nat) (s : State) :
    JudgedFrom s.contexts[n] (judgeCadence n interval s).contexts[n] := by
  cases window : inWindow s.entries[n].fields interval with
  | false =>
    rw [judgeCadence_outside window]
    split
    · rw [show (goLost n 1 (cadenceError n s)).contexts[n] = _ from modifyContext_same n _ (cadenceError n s),
        show (cadenceError n s).contexts[n] = _ from modifyContext_same n _ s]
      exact ⟨_, _, _, _, _, _, rfl⟩
    · rw [show (cadenceError n s).contexts[n] = _ from modifyContext_same n _ s]
      exact ⟨_, _, _, _, _, _, rfl⟩
  | true =>
    rw [judgeCadence, fieldsOf, if_pos window, modifyContext_same]
    exact ⟨_, _, _, _, _, _, rfl⟩

theorem judgeInterval_context (n : Fin 32) (interval : Nat) (s : State) :
    JudgedFrom s.contexts[n] (judgeInterval n interval s).contexts[n] := by
  unfold judgeInterval
  split
  · exact judgeToLock_context n interval s
  · exact judgeToLock_context n interval s
  · exact judgeCadence_context n interval s
  · exact .of_eq rfl
  · exact .of_eq rfl

/-- R46: the judgement counts at most a cadence error. -/
theorem judgeInterval_live (n : Fin 32) (interval : Nat) (s : State) :
    (judgeInterval n interval s).live = s.live ∨ (judgeInterval n interval s).live = (cadenceError n s).live := by
  unfold judgeInterval
  split
  · exact Or.inl (judgeToLock_keeps n interval s .live (by decide))
  · exact Or.inl (judgeToLock_keeps n interval s .live (by decide))
  · cases window : inWindow s.entries[n].fields interval with
    | false =>
      rw [judgeCadence_outside window]
      split
      · exact Or.inr rfl
      · exact Or.inr rfl
    | true =>
      rw [judgeCadence, fieldsOf, if_pos window]
      exact Or.inl rfl
  · exact Or.inl rfl
  · exact Or.inl rfl

theorem judgeInterval_gaps (n : Fin 32) (interval : Nat) (s : State) :
    (judgeInterval n interval s).live.streams[n].gaps = s.live.streams[n].gaps := by
  rcases judgeInterval_live n interval s with same | counted
  · rw [same]
  · rw [counted]
    rw [cadenceError, countStream_same]
    rfl

theorem frameStartContext_gaps (n : Fin 32) (frame : BitVec 16) (s : State) :
    (frameStartContext n frame s).live.streams[n].gaps = (gapCounted n frame s).live.streams[n].gaps := by
  rw [frameStartContext_eq]
  split
  · exact judgeInterval_gaps n _ _
  · rfl

/-- R41, R43, R44: at the end of a frame start's work the context is as recorded, but for what the judgement decides. -/
theorem frameStartContext_context (n : Fin 32) (frame : BitVec 16) (s : State) :
    JudgedFrom (startedContext s.reference.params frame s.contexts[n]) (frameStartContext n frame s).contexts[n] := by
  have recorded : (frameStarting n frame s).contexts[n] =
      startedContext s.reference.params frame s.contexts[n] := by
    rw [frameStarting, modifyContext_same, gapCounted_contexts]
  rw [frameStartContext_eq, ← recorded]
  split
  · exact judgeInterval_context n _ _
  · exact .of_eq rfl

/-! ## The statement -/

theorem beginsFrame_iff (k : BurstKind) : beginsFrame k = true ↔ k = .startBurst ∨ k = .singleBurst := by
  cases k <;> decide

/-- R41, R43, R50: a frame start with measuring clear, as a whole state. -/
theorem frameStartContext_unmeasured {n : Fin 32} {s : State} (h : s.contexts[n].measuring = false)
    (frame : BitVec 16) :
    frameStartContext n frame s =
      { gapCounted n frame s with
        contexts := s.contexts.set n
          { s.contexts[n] with
            refusing := false, lastFrameNumber := some frame, measuring := true, intervalCounter := 0 } } := by
  rw [frameStartContext_eq, if_neg (by rw [h]; decide), frameStarting_eq, startedContext_unmeasured h]

/-- R41, R43 to R46, R50: a frame start with measuring set, as a whole state. -/
theorem frameStartContext_measured {n : Fin 32} {s : State} (h : s.contexts[n].measuring = true) (frame : BitVec 16) :
    frameStartContext n frame s =
      judgeInterval n s.contexts[n].intervalCounter
        { gapCounted n frame s with
          contexts := s.contexts.set n (startedContext s.reference.params frame s.contexts[n]) } := by
  rw [frameStartContext_eq, if_pos h, frameStarting_eq]

/-- Settles O15: the record of the frame start, and the judgement in each state of the stream. -/
theorem frameStartMeasured : Obligations.FrameStartMeasured := by
  refine ⟨fun n frame s => ?_, fun n interval s => ?_⟩
  · refine ⟨fun unmeasured => ?_, fun measured => ?_, ?_, (frameStartContext_keeps n frame s).mono (by decide), ?_,
      fun b => ⟨beginsFrame_iff b.kind, fun begins => if_pos begins⟩⟩
    · rw [frameStartContext_unmeasured unmeasured]
      exact Vector.getElem_set_self n.isLt
    · obtain ⟨_, _, _, _, _, _, context⟩ := frameStartContext_context n frame s
      rw [context, startedContext_measured measured]
      exact ⟨rfl, rfl, rfl, rfl, measured, rfl, rfl, rfl⟩
    · rw [frameStartContext_gaps, gapCounted_eq]
      split
      · rw [countStream_same]
        rfl
      · rfl
    · rw [← gapCounted_eq]
      refine ⟨fun unmeasured => frameStartContext_unmeasured unmeasured frame, fun measured => ?_⟩
      rw [frameStartContext_measured measured, startedContext_measured measured]
  · refine ⟨inWindow_iff _ _, fun unlocked => ?_, fun locked => ?_⟩
    · rw [judgeInterval_unlocked unlocked]
      exact ⟨judgeToLock_progresses, judgeToLock_locks, judgeToLock_outside⟩
    · rw [judgeInterval_locked locked]
      refine ⟨fun good => if_pos good, fun bad => ?_, fun bad below => ?_, fun bad reached => ?_⟩
      · rw [judgeCadence_outside bad]
        split
        · exact cadenceError_live
        · exact cadenceError_live
      · rw [judgeCadence_outside bad, if_neg (Nat.not_le.mpr below)]
        exact ⟨cadenceError_contexts, cadenceError_keeps⟩
      · rw [judgeCadence_outside bad, if_pos reached]
        exact ⟨goLost_cadenceError_contexts, rfl, goLost_buffer n 1 (cadenceError n s),
          fun m other => goLost_ring_other n 1 _ other,
          cadenceError_keeps.seq (goLost_keeps n 1 _) (by decide)⟩

end Sys2Proof.Machine
end

section
/-! PROOFS. The entry of a stream to CLOSING and its passage to OFF (R51, R52, R71, R77, R11, R160). -/

namespace Sys2Proof.Machine

/-- R173: an occurrence overwrites the detail of its own latch. -/
theorem raise_latch_own {l : Fin 16} {e : EventKind} (h : l = latchNumber e) (source cause : Nat) (s : State) :
    (raise e source cause s).latches[l] = occur source cause s.latches[l] := by
  subst h
  exact modifyAt_same _ _ _

/-! ## One buffer released (R71, R77) -/

/-- R77: FILLING and SEALING, the states that the entry to CLOSING abandons as incomplete. -/
def Buffer.incomplete (b : Buffer) : Bool := b.state == .filling || b.state == .sealing

theorem Buffer.incomplete_iff (b : Buffer) : b.incomplete = true ↔ b.state = .filling ∨ b.state = .sealing := by
  simp [Buffer.incomplete]

/-- R77: a buffer after the entry to CLOSING. -/
def released (b : Buffer) : Buffer :=
  if b.state = .filling ∨ b.state = .sealing ∨ (b.complete = true ∧ b.holdCount = 0) then emptied b else b

/-- R56: a buffer that becomes EMPTY keeps its hold count, so a release keeps it. -/
theorem released_holdCount (b : Buffer) : (released b).holdCount = b.holdCount := by
  unfold released
  split
  · rfl
  · rfl

theorem released_of_incomplete {b : Buffer} (h : b.incomplete = true) : released b = emptied b := by
  rcases (Buffer.incomplete_iff b).mp h with filling | sealing
  · exact if_pos (Or.inl filling)
  · exact if_pos (Or.inr (Or.inl sealing))

theorem released_of_complete {b : Buffer} (h : b.incomplete = false) : released b = purged b := by
  have notFilling : b.state ≠ .filling := fun e => by simp [Buffer.incomplete, e] at h
  have notSealing : b.state ≠ .sealing := fun e => by simp [Buffer.incomplete, e] at h
  simp only [released, purged, notFilling, notSealing, false_or, Bool.and_eq_true, beq_iff_eq]

/-- Two changes that give the same record are one. -/
theorem modifyBuffer_congr {b : BufferName} {f g : Buffer → Buffer} {s : State}
    (h : f (bufferOf s b) = g (bufferOf s b)) : modifyBuffer b f s = modifyBuffer b g s := by
  have entry : f s.rings[b.stream][b.ring] = g s.rings[b.stream][b.ring] := h
  simp only [modifyBuffer, modifyAt, entry]

theorem modifyBuffer_unchanged {b : BufferName} {f : Buffer → Buffer} {s : State}
    (h : f (bufferOf s b) = bufferOf s b) : modifyBuffer b f s = s := by
  rw [modifyBuffer_congr (g := id) h]
  simp [modifyBuffer, modifyAt]

theorem bufferOf_modifyBuffer_same (b : BufferName) (f : Buffer → Buffer) (s : State) :
    bufferOf (modifyBuffer b f s) b = f (bufferOf s b) := by
  simp [bufferOf, modifyBuffer, modifyAt]

/-- R71, R77: the release of a buffer, with the damage told where it is abandoned. -/
theorem releaseBuffer_eq (n : Fin 32) (i : Fin 8) (s : State) :
    releaseBuffer n i s =
      if (bufferOf s ⟨n, i⟩).incomplete then damage n 4 (modifyBuffer ⟨n, i⟩ released s)
      else modifyBuffer ⟨n, i⟩ released s := by
  have abandoned (h : (bufferOf s ⟨n, i⟩).incomplete = true) :
      modifyBuffer ⟨n, i⟩ released s = modifyBuffer ⟨n, i⟩ emptied s := modifyBuffer_congr (released_of_incomplete h)
  have kept (h : (bufferOf s ⟨n, i⟩).incomplete = false) :
      modifyBuffer ⟨n, i⟩ released s = modifyBuffer ⟨n, i⟩ purged s := modifyBuffer_congr (released_of_complete h)
  unfold releaseBuffer
  cases state : (bufferOf s ⟨n, i⟩).state with
  | filling =>
    have inc : (bufferOf s ⟨n, i⟩).incomplete = true := by rw [Buffer.incomplete, state]; rfl
    rw [if_pos inc, abandoned inc]
    rfl
  | sealing =>
    have inc : (bufferOf s ⟨n, i⟩).incomplete = true := by rw [Buffer.incomplete, state]; rfl
    rw [if_pos inc, abandoned inc]
    rfl
  | ready =>
    have inc : (bufferOf s ⟨n, i⟩).incomplete = false := by rw [Buffer.incomplete, state]; rfl
    rw [inc, kept inc]
    rfl
  | shown =>
    have inc : (bufferOf s ⟨n, i⟩).incomplete = false := by rw [Buffer.incomplete, state]; rfl
    rw [inc, kept inc]
    rfl
  | empty =>
    have inc : (bufferOf s ⟨n, i⟩).incomplete = false := by rw [Buffer.incomplete, state]; rfl
    have same : purged (bufferOf s ⟨n, i⟩) = bufferOf s ⟨n, i⟩ := by
      rw [purged_eq, state]
      exact if_neg (by simp)
    rw [inc, kept inc, modifyBuffer_unchanged same]
    rfl

/-! ## Every buffer of the ring released -/

theorem releaseBuffer_buffer (n : Fin 32) (i j : Fin 8) (s : State) :
    bufferOf (releaseBuffer n i s) ⟨n, j⟩ =
      if j = i then released (bufferOf s ⟨n, j⟩) else bufferOf s ⟨n, j⟩ := by
  have rings : bufferOf (releaseBuffer n i s) ⟨n, j⟩ = bufferOf (modifyBuffer ⟨n, i⟩ released s) ⟨n, j⟩ := by
    rw [releaseBuffer_eq]
    split
    · rfl
    · rfl
  rw [rings]
  split
  · rename_i same
    rw [same, bufferOf_modifyBuffer_same]
  · rename_i other
    exact bufferOf_modifyBuffer_other _ _ _ _ fun e => other (BufferName.mk.inj e).2.symm

theorem releaseBuffer_incomplete {n : Fin 32} {i j : Fin 8} (s : State) (h : j ≠ i) :
    (bufferOf (releaseBuffer n i s) ⟨n, j⟩).incomplete = (bufferOf s ⟨n, j⟩).incomplete := by
  rw [releaseBuffer_buffer, if_neg h]

theorem releaseAll_buffer {is : List (Fin 8)} (once : is.Nodup) (n : Fin 32) (j : Fin 8) (s : State) :
    bufferOf (forEach is (releaseBuffer n) s) ⟨n, j⟩ =
      if j ∈ is then released (bufferOf s ⟨n, j⟩) else bufferOf s ⟨n, j⟩ := by
  induction is generalizing s with
  | nil => rfl
  | cons i rest ih =>
    obtain ⟨fresh, once⟩ := List.nodup_cons.mp once
    rw [forEach_cons, ih once, releaseBuffer_buffer]
    by_cases same : j = i
    · subst same
      simp [fresh]
    · simp [same]

theorem releaseAll_ring_other {n m : Fin 32} (h : m ≠ n) (is : List (Fin 8)) (s : State) :
    (forEach is (releaseBuffer n) s).rings[m] = s.rings[m] := by
  refine forEach_keeps (fun t => t.rings[m] = s.rings[m]) _ (fun i t ht => ?_) is s rfl
  rw [← ht, releaseBuffer_eq]
  have rings : (modifyBuffer ⟨n, i⟩ released t).rings[m] = t.rings[m] := modifyAt_other _ _ _ _ h
  split
  · exact rings
  · exact rings

/-- How many of the buffers given the entry to CLOSING abandons (R77). -/
def abandonedCount (n : Fin 32) (is : List (Fin 8)) (s : State) : Nat :=
  (is.filter fun i => (bufferOf s ⟨n, i⟩).incomplete).length

theorem abandonedCount_releaseBuffer {n : Fin 32} {i : Fin 8} {rest : List (Fin 8)} (fresh : i ∉ rest) (s : State) :
    abandonedCount n rest (releaseBuffer n i s) = abandonedCount n rest s := by
  refine congrArg List.length (List.filter_congr fun j hj => ?_)
  exact releaseBuffer_incomplete s fun same => fresh (same ▸ hj)

theorem bumpStream_damaged_iterate (mode : CounterMode) (k : Nat) (t : StreamCounters) :
    (bumpStream mode .damaged)^[k] t = { t with damaged := (fun v => bump mode v 1)^[k] t.damaged } := by
  induction k generalizing t with
  | zero => rfl
  | succ k ih =>
    rw [Function.iterate_succ_apply, ih]
    rfl

/-- R71: DAMAGED rises by one for each buffer abandoned. -/
theorem releaseAll_live {is : List (Fin 8)} (once : is.Nodup) (n : Fin 32) (s : State) :
    (forEach is (releaseBuffer n) s).live =
      { s.live with
        streams := modifyAt s.live.streams n (bumpStream s.counterMode .damaged)^[abandonedCount n is s] } := by
  induction is generalizing s with
  | nil => simp [abandonedCount, modifyAt]
  | cons i rest ih =>
    obtain ⟨fresh, once⟩ := List.nodup_cons.mp once
    have mode : (releaseBuffer n i s).counterMode = s.counterMode := releaseBuffer_keeps n i s .counterMode (by decide)
    rw [forEach_cons, ih once, abandonedCount_releaseBuffer fresh, mode]
    cases inc : (bufferOf s ⟨n, i⟩).incomplete with
    | true =>
      have one : (releaseBuffer n i s).live =
          { s.live with streams := modifyAt s.live.streams n (bumpStream s.counterMode .damaged) } := by
        rw [releaseBuffer_eq, inc]
        rfl
      have count : abandonedCount n (i :: rest) s = abandonedCount n rest s + 1 := by
        simp [abandonedCount, inc]
      rw [one, count, modifyAt_modifyAt, ← Function.iterate_succ_apply]
      rfl
    | false =>
      have none : (releaseBuffer n i s).live = s.live := by
        rw [releaseBuffer_eq, inc]
        rfl
      have count : abandonedCount n (i :: rest) s = abandonedCount n rest s := by
        simp [abandonedCount, inc]
      rw [none, count]

/-- R71, R173: FRAME_DAMAGED is raised where a buffer is abandoned; told again it says the same. -/
theorem releaseAll_latches {is : List (Fin 8)} (once : is.Nodup) (n : Fin 32) (s : State) :
    (forEach is (releaseBuffer n) s).latches =
      if ∃ i ∈ is, (bufferOf s ⟨n, i⟩).incomplete = true then (raise .frameDamaged n.val 4 s).latches else s.latches := by
  induction is generalizing s with
  | nil => simp
  | cons i rest ih =>
    obtain ⟨fresh, once⟩ := List.nodup_cons.mp once
    have later : (∃ j ∈ rest, (bufferOf (releaseBuffer n i s) ⟨n, j⟩).incomplete = true) ↔
        ∃ j ∈ rest, (bufferOf s ⟨n, j⟩).incomplete = true := by
      refine exists_congr fun j => and_congr_right fun hj => ?_
      have other : j ≠ i := fun same => fresh (same ▸ hj)
      rw [releaseBuffer_incomplete s other]
    rw [forEach_cons, ih once, if_congr later rfl rfl]
    cases inc : (bufferOf s ⟨n, i⟩).incomplete with
    | true =>
      have one : (releaseBuffer n i s).latches = (raise .frameDamaged n.val 4 s).latches := by
        rw [releaseBuffer_eq, inc]
        rfl
      have again : (raise .frameDamaged n.val 4 (releaseBuffer n i s)).latches =
          (raise .frameDamaged n.val 4 s).latches := by
        simp only [raise, one, modifyAt_modifyAt]
        rfl
      rw [again, one, ite_self, if_pos ⟨i, List.mem_cons_self, inc⟩]
    | false =>
      have none : (releaseBuffer n i s).latches = s.latches := by
        rw [releaseBuffer_eq, inc]
        rfl
      simp only [raise, none, List.mem_cons, exists_eq_or_imp, inc, Bool.false_eq_true, false_or]

/-! ## The stages of the entry to CLOSING (R51) -/

/-- The part with the context and the ring at their values in CLOSING. -/
def closingReleased (n : Fin 32) (s : State) : State :=
  forEach (indexes 8) (releaseBuffer n) (modifyContext n closingContext s)

/-- The part with the generator of the stream stopped, too. -/
def closingAborted (n : Fin 32) (s : State) : State := abortGeneratorOf n (closingReleased n s)

/-- The part with the waiting burst of the stream discarded, too; the passage to OFF alone is left. -/
def closingRouted (n : Fin 32) (s : State) : State := misrouteWaiting n (closingAborted n s)

section
variable (n : Fin 32) (s : State)

theorem enterClosing_eq : enterClosing n s = settleClosing n (closingRouted n s) := rfl

theorem closingReleased_keeps : Keeps [.contexts, .rings, .live, .latches] s (closingReleased n s) :=
  (modifyContext_keeps s n closingContext).seq (Keeps.forEach _ (fun i t => releaseBuffer_keeps n i t) _ _) (by decide)

theorem closingReleased_contexts :
    (closingReleased n s).contexts = s.contexts.set n (closingContext s.contexts[n]) :=
  Keeps.forEach (releaseBuffer n) (fun i t => releaseBuffer_keeps n i t) (indexes 8) (modifyContext n closingContext s)
    .contexts (by decide)

theorem closingRouted_keeps :
    Keeps [.live, .latches, .generator, .ingress, .dispatcher] (closingReleased n s) (closingRouted n s) :=
  (abortGeneratorOf_keeps n _).seq (misrouteWaiting_keeps n _) (by decide)

theorem closingRouted_contexts : (closingRouted n s).contexts = s.contexts.set n (closingContext s.contexts[n]) :=
  (closingRouted_keeps n s .contexts (by decide)).trans (closingReleased_contexts n s)

/-- The passage to OFF changes the contexts alone (R52). -/
theorem enterClosing_keeps_routed : Keeps [.contexts] (closingRouted n s) (enterClosing n s) := settleClosing_keeps n _

/-! ## The ring and the context -/

theorem enterClosing_rings : (enterClosing n s).rings = (closingReleased n s).rings :=
  (enterClosing_keeps_routed n s .rings (by decide)).trans (closingRouted_keeps n s .rings (by decide))

theorem closingReleased_buffer (i : Fin 8) : (closingReleased n s).rings[n][i] = released s.rings[n][i] :=
  (releaseAll_buffer (List.nodup_finRange 8) n i (modifyContext n closingContext s)).trans (if_pos (mem_indexes i))

theorem enterClosing_buffer (i : Fin 8) : (enterClosing n s).rings[n][i] = released s.rings[n][i] := by
  rw [enterClosing_rings, closingReleased_buffer]

/-- R51, R52: the context at the entry to CLOSING, and OFF at once when no write is outstanding and no buffer is held. -/
theorem enterClosing_contexts :
    (enterClosing n s).contexts =
      s.contexts.set n
        { closingContext s.contexts[n] with
          state :=
            if s.contexts[n].writesOutstanding = 0 ∧ ∀ i : Fin 8, s.rings[n][i].holdCount = 0 then .off else .closing } := by
  have holds (i : Fin 8) : (closingRouted n s).rings[n][i].holdCount = s.rings[n][i].holdCount := by
    rw [show (closingRouted n s).rings = (closingReleased n s).rings from closingRouted_keeps n s .rings (by decide),
      closingReleased_buffer, released_holdCount]
  rw [enterClosing_eq, settleClosing_eq]
  simp only [holds, closingRouted_contexts, Vector.set_set]
  simp [closingContext]

theorem enterClosing_context :
    (enterClosing n s).contexts[n] =
      { closingContext s.contexts[n] with
        state :=
          if s.contexts[n].writesOutstanding = 0 ∧ ∀ i : Fin 8, s.rings[n][i].holdCount = 0 then .off else .closing } := by
  rw [enterClosing_contexts]
  exact Vector.getElem_set_self n.isLt

/-- R51: the rings and contexts of the other streams stay. -/
theorem enterClosing_other {m : Fin 32} (h : m ≠ n) :
    (enterClosing n s).contexts[m] = s.contexts[m] ∧ (enterClosing n s).rings[m] = s.rings[m] := by
  constructor
  · rw [enterClosing_contexts]
    exact Vector.getElem_set_ne _ _ fun e => h (Fin.ext e.symm)
  · rw [enterClosing_rings]
    exact releaseAll_ring_other h _ _

/-! ## The buffers abandoned: DAMAGED and FRAME_DAMAGED (R71) -/

theorem closingReleased_live :
    (closingReleased n s).live =
      { s.live with
        streams := modifyAt s.live.streams n
          (bumpStream s.counterMode .damaged)^[abandonedCount n (indexes 8) s] } :=
  releaseAll_live (List.nodup_finRange 8) n (modifyContext n closingContext s)

theorem closingReleased_latches :
    (closingReleased n s).latches =
      if ∃ i : Fin 8, s.rings[n][i].state = .filling ∨ s.rings[n][i].state = .sealing then
        (raise .frameDamaged n.val 4 s).latches
      else s.latches := by
  have damaged : (∃ i ∈ indexes 8, (bufferOf (modifyContext n closingContext s) ⟨n, i⟩).incomplete = true) ↔
      ∃ i : Fin 8, s.rings[n][i].state = .filling ∨ s.rings[n][i].state = .sealing :=
    exists_congr fun i => (and_iff_right (mem_indexes i)).trans (Buffer.incomplete_iff _)
  have once : (indexes 8).Nodup := List.nodup_finRange 8
  rw [closingReleased, releaseAll_latches once, if_congr damaged rfl rfl]
  rfl

/-- R173: the release tells FRAME_DAMAGED alone. -/
theorem closingReleased_latch_other {l : Fin 16} (h : l ≠ 4) : (closingReleased n s).latches[l] = s.latches[l] := by
  rw [closingReleased_latches]
  split
  · rw [raise_latch]
    exact if_neg h
  · rfl

end

/-! ## The generator (R160) -/

/-- R160: the record of an aborted generator. -/
def abortedGenerator (g : Generator) : Generator :=
  { g with state := .stopped, inProgress := false, stopRequested := false, waiting := none, frameStartDue := false }

theorem abortGeneratorOf_running {n : Fin 32} {s : State} (running : s.generator.state = .running)
    (feeds : s.generator.stream = some n) :
    abortGeneratorOf n s =
      raise .test n.val 1
        { s with generator := abortedGenerator s.generator } := by
  have told (t : State) (h : t.generator.stream = some n) : raiseGeneratorTest 1 t = raise .test n.val 1 t := by
    rw [raiseGeneratorTest, h]
  rw [abortGeneratorOf, if_pos feeds, abortGenerator, if_pos running]
  exact told _ feeds

theorem abortGeneratorOf_idle {n : Fin 32} {s : State} (h : s.generator.state ≠ .running ∨ s.generator.stream ≠ some n) :
    abortGeneratorOf n s = s := by
  unfold abortGeneratorOf
  split
  · rename_i feeds
    rcases h with stopped | other
    · exact if_neg stopped
    · exact absurd feeds other
  · rfl

/-- R165: the abort tells TEST alone. -/
theorem abortGeneratorOf_latch_other {l : Fin 16} (h : l ≠ 1) (n : Fin 32) (s : State) :
    (abortGeneratorOf n s).latches[l] = s.latches[l] := by
  by_cases feeding : s.generator.state = .running ∧ s.generator.stream = some n
  · rw [abortGeneratorOf_running feeding.1 feeding.2, raise_latch]
    exact if_neg h
  · rw [abortGeneratorOf_idle (not_and_or.mp feeding)]

/-! ## The dispatcher's waiting burst (R11) -/

theorem misrouteWaiting_own {n : Fin 32} {s : State} {p : Fin 4} {b : Burst} (waits : s.dispatcher.waiting = some p)
    (head : headBurst s p = some b) (own : streamOfTag b.tag = n) :
    misrouteWaiting n s = misroute p (finishBurst p s) := by
  unfold misrouteWaiting
  simp only [waits, head, own, if_true]

/-- R11: the dispatcher waits with no burst of the stream. -/
theorem misrouteWaiting_other {n : Fin 32} {s : State}
    (h : s.dispatcher.waiting = none ∨
      ∃ p b, s.dispatcher.waiting = some p ∧ headBurst s p = some b ∧ streamOfTag b.tag ≠ n) :
    misrouteWaiting n s = s := by
  unfold misrouteWaiting
  rcases h with free | ⟨p, b, waits, head, other⟩
  · simp only [free]
  · simp only [waits, head, other, if_false]

theorem misrouteWaiting_cases (n : Fin 32) (s : State) :
    misrouteWaiting n s = s ∨ ∃ p, misrouteWaiting n s = misroute p (finishBurst p s) := by
  unfold misrouteWaiting
  split
  · exact Or.inl rfl
  · split
    · exact Or.inl rfl
    · split
      · exact Or.inr ⟨_, rfl⟩
      · exact Or.inl rfl

/-- R9, R11: a misroute changes, of the counters, those of a port. -/
theorem misrouteWaiting_live (n : Fin 32) (s : State) :
    ∃ ingress, (misrouteWaiting n s).live = { s.live with ingress := ingress } := by
  rcases misrouteWaiting_cases n s with same | ⟨p, discarded⟩
  · exact ⟨s.live.ingress, by rw [same]⟩
  · exact ⟨_, by rw [discarded]; rfl⟩

/-- R9: a misroute tells MISROUTE alone. -/
theorem misrouteWaiting_latch_other {l : Fin 16} (h : l ≠ 3) (n : Fin 32) (s : State) :
    (misrouteWaiting n s).latches[l] = s.latches[l] := by
  rcases misrouteWaiting_cases n s with same | ⟨p, discarded⟩
  · rw [same]
  · rw [discarded, misroute, raise_latch]
    exact if_neg h

section
variable (p : Fin 4) (s : State)

theorem finished_dispatcher :
    (misroute p (finishBurst p s)).dispatcher = { pointer := p + 1, waiting := none } := by
  rw [← nextIndex_eq_add_one p]
  rfl

theorem finished_ingress :
    (misroute p (finishBurst p s)).ingress =
      s.ingress.set p { s.ingress[p] with fifo := s.ingress[p].fifo.tail } := rfl

theorem misroute_ingressCounters :
    (misroute p (finishBurst p s)).live.ingress =
      s.live.ingress.set p
        { s.live.ingress[p] with misroutes := bump s.counterMode s.live.ingress[p].misroutes 1 } := rfl

theorem misroute_latch3 :
    (misroute p (finishBurst p s)).latches[(3 : Fin 16)] = occur p.val 0 s.latches[(3 : Fin 16)] :=
  raise_latch_own rfl _ _ _

end

/-! ## What the entry to CLOSING leaves of counters, latches, generator and dispatcher -/

section
variable {n : Fin 32} {s : State}

theorem closingAborted_keeps (n : Fin 32) (s : State) :
    Keeps [.contexts, .rings, .live, .latches, .generator] s (closingAborted n s) :=
  (closingReleased_keeps n s).seq (abortGeneratorOf_keeps n _) (by decide)

theorem enterClosing_live (n : Fin 32) (s : State) : (enterClosing n s).live = (closingRouted n s).live :=
  enterClosing_keeps_routed n s .live (by decide)

theorem closingAborted_live (n : Fin 32) (s : State) : (closingAborted n s).live = (closingReleased n s).live :=
  abortGeneratorOf_keeps n _ .live (by decide)

theorem closingAborted_liveIngress (n : Fin 32) (s : State) : (closingAborted n s).live.ingress = s.live.ingress := by
  rw [closingAborted_live, closingReleased_live]

theorem enterClosing_live_shape (n : Fin 32) (s : State) :
    ∃ ingress, (enterClosing n s).live =
      { s.live with
        streams := modifyAt s.live.streams n (bumpStream s.counterMode .damaged)^[abandonedCount n (indexes 8) s]
        ingress := ingress } := by
  obtain ⟨ingress, routed⟩ := misrouteWaiting_live n (closingAborted n s)
  refine ⟨ingress, ?_⟩
  rw [enterClosing_live, closingRouted, routed, closingAborted_live, closingReleased_live]

theorem enterClosing_latches (n : Fin 32) (s : State) : (enterClosing n s).latches = (closingRouted n s).latches :=
  enterClosing_keeps_routed n s .latches (by decide)

/-- FRAME_DAMAGED, latch 4, is that of the release. -/
theorem enterClosing_latch4 (n : Fin 32) (s : State) :
    (enterClosing n s).latches[(4 : Fin 16)] = (closingReleased n s).latches[(4 : Fin 16)] := by
  rw [enterClosing_latches, closingRouted, misrouteWaiting_latch_other (by decide), closingAborted,
    abortGeneratorOf_latch_other (by decide)]

/-- TEST, latch 1, is that of the generator's abort. -/
theorem enterClosing_latch1 (n : Fin 32) (s : State) :
    (enterClosing n s).latches[(1 : Fin 16)] = (closingAborted n s).latches[(1 : Fin 16)] := by
  rw [enterClosing_latches, closingRouted, misrouteWaiting_latch_other (by decide)]

/-- MISROUTE, latch 3, is as before up to the dispatcher's burst. -/
theorem closingAborted_latch3 (n : Fin 32) (s : State) :
    (closingAborted n s).latches[(3 : Fin 16)] = s.latches[(3 : Fin 16)] := by
  rw [closingAborted, abortGeneratorOf_latch_other (by decide), closingReleased_latch_other n s (by decide)]

/-- R173: no other latch changes. -/
theorem enterClosing_latch_other {l : Fin 16} (test : l ≠ 1) (misroutes : l ≠ 3) (damages : l ≠ 4) :
    (enterClosing n s).latches[l] = s.latches[l] := by
  rw [enterClosing_latches, closingRouted, misrouteWaiting_latch_other misroutes, closingAborted,
    abortGeneratorOf_latch_other test, closingReleased_latch_other n s damages]

theorem enterClosing_generator (n : Fin 32) (s : State) : (enterClosing n s).generator = (closingAborted n s).generator :=
  (enterClosing_keeps_routed n s .generator (by decide)).trans (misrouteWaiting_keeps n _ .generator (by decide))

theorem closingReleased_generator (n : Fin 32) (s : State) : (closingReleased n s).generator = s.generator :=
  closingReleased_keeps n s .generator (by decide)

theorem closingAborted_running (running : s.generator.state = .running) (feeds : s.generator.stream = some n) :
    closingAborted n s =
      raise .test n.val 1
        { closingReleased n s with generator := abortedGenerator s.generator } := by
  have same := closingReleased_generator n s
  rw [closingAborted, abortGeneratorOf_running (by rw [same, running]) (by rw [same, feeds]), same]

theorem closingAborted_idle (h : s.generator.state ≠ .running ∨ s.generator.stream ≠ some n) :
    closingAborted n s = closingReleased n s := by
  apply abortGeneratorOf_idle
  rw [closingReleased_generator]
  exact h

theorem closingAborted_dispatcher (n : Fin 32) (s : State) : (closingAborted n s).dispatcher = s.dispatcher :=
  closingAborted_keeps n s .dispatcher (by decide)

theorem closingAborted_ingress (n : Fin 32) (s : State) : (closingAborted n s).ingress = s.ingress :=
  closingAborted_keeps n s .ingress (by decide)

theorem closingAborted_counterMode (n : Fin 32) (s : State) : (closingAborted n s).counterMode = s.counterMode :=
  closingAborted_keeps n s .counterMode (by decide)

theorem enterClosing_dispatcher (n : Fin 32) (s : State) :
    (enterClosing n s).dispatcher = (closingRouted n s).dispatcher :=
  enterClosing_keeps_routed n s .dispatcher (by decide)

theorem enterClosing_ingress (n : Fin 32) (s : State) : (enterClosing n s).ingress = (closingRouted n s).ingress :=
  enterClosing_keeps_routed n s .ingress (by decide)

theorem closingAborted_headBurst (n : Fin 32) (s : State) (p : Fin 4) :
    headBurst (closingAborted n s) p = headBurst s p := by
  rw [headBurst, closingAborted_ingress, headBurst]

theorem closingRouted_own {p : Fin 4} {b : Burst} (waits : s.dispatcher.waiting = some p)
    (head : headBurst s p = some b) (own : b.tag.toNat = n.val) :
    closingRouted n s = misroute p (finishBurst p (closingAborted n s)) :=
  misrouteWaiting_own ((congrArg Dispatcher.waiting (closingAborted_dispatcher n s)).trans waits)
    ((closingAborted_headBurst n s p).trans head) (streamOfTag_eq own)

theorem closingRouted_other
    (h : s.dispatcher.waiting = none ∨
      ∃ p b, s.dispatcher.waiting = some p ∧ headBurst s p = some b ∧ b.tag.toNat < 32 ∧ b.tag.toNat ≠ n.val) :
    closingRouted n s = closingAborted n s := by
  apply misrouteWaiting_other
  rw [closingAborted_dispatcher]
  refine h.imp_right ?_
  rintro ⟨p, b, waits, head, low, other⟩
  refine ⟨p, b, waits, (closingAborted_headBurst n s p).trans head, ?_⟩
  rw [streamOfTag_eq (n := ⟨b.tag.toNat, low⟩) rfl]
  exact fun e => other (congrArg Fin.val e)

end

/-! ## The statement -/

/-- Settles O20: the context and the ring of the stream, then the generator, the waiting burst, the counters and the latches. -/
theorem entryToClosing : Obligations.EntryToClosing := by
  refine ⟨fun n s => ?_, fun n s => ?_⟩
  · refine ⟨?_, ?_, ⟨_, enterClosing_context n s⟩, enterClosing_buffer n s, fun running feeds => ?_,
      fun m other => enterClosing_other n s other, ?_, enterClosing_keeps n s⟩
    · rw [enterClosing_context]
      dsimp only
      split
      · exact Or.inr rfl
      · exact Or.inl rfl
    · rw [enterClosing_context]
      dsimp only
      split
      · rename_i free
        exact iff_of_true rfl free
      · rename_i held
        exact iff_of_false nofun held
    · rw [enterClosing_generator, closingAborted_running running feeds]
      exact ⟨rfl, rfl⟩
    · obtain ⟨ingress, live⟩ := enterClosing_live_shape n s
      exact ⟨_, ingress, live⟩
  · refine ⟨?_, fun damaged => ?_, fun whole => ?_, fun running feeds => ?_, fun idle => ?_,
      fun p b waits head own => ?_, fun other => ?_, fun l test misroutes damages =>
        enterClosing_latch_other test misroutes damages⟩
    · obtain ⟨ingress, live⟩ := enterClosing_live_shape n s
      rw [live, modifyAt, bumpStream_damaged_iterate]
      rfl
    · rw [enterClosing_latch4, closingReleased_latches, if_pos damaged]
      exact raise_latch_own rfl _ _ _
    · have none : ¬ ∃ i : Fin 8, s.rings[n][i].state = .filling ∨ s.rings[n][i].state = .sealing := by
        rintro ⟨i, filling | sealing⟩
        · exact (whole i).1 filling
        · exact (whole i).2 sealing
      rw [enterClosing_latch4, closingReleased_latches, if_neg none]
    · rw [enterClosing_generator, enterClosing_latch1, closingAborted_running running feeds,
        raise_latch_own (l := 1) (e := .test) rfl, closingReleased_latch_other n s (by decide)]
      exact ⟨rfl, rfl⟩
    · rw [enterClosing_generator, enterClosing_latch1, closingAborted_idle idle]
      exact ⟨closingReleased_generator n s, closingReleased_latch_other n s (by decide)⟩
    · rw [enterClosing_dispatcher, enterClosing_ingress, enterClosing_live, enterClosing_latches,
        closingRouted_own waits head own, misroute_ingressCounters, closingAborted_liveIngress,
        closingAborted_counterMode, misroute_latch3, closingAborted_latch3, finished_ingress, closingAborted_ingress]
      exact ⟨finished_dispatcher p _, rfl, rfl, rfl⟩
    · rw [enterClosing_dispatcher, enterClosing_ingress, enterClosing_live, enterClosing_latches,
        closingRouted_other other]
      exact ⟨closingAborted_dispatcher n s, closingAborted_ingress n s, closingAborted_liveIngress n s,
        closingAborted_latch3 n s⟩

end Sys2Proof.Machine
end

section
/-! PROOFS. The stream requests (R35, R36, R39, R40, R51, R54, R80). -/

namespace Sys2Proof.Machine

/-! ## The path of a request on a stream (R179, R181) -/

theorem indexOf_eq_some {n : Nat} {v : Nat} {i : Fin n} (h : v = i.val) : indexOf n v = some i := by
  subst h
  exact dif_pos i.isLt

theorem indexOf_eq_none {n : Nat} {v : Nat} (h : n ≤ v) : indexOf n v = none := dif_neg (Nat.not_lt.mpr h)

section
variable {p : List Word} {rest : List (List Word)} {s : State} {code : BitVec 8} {body : Fin 32 → RequestBody}

/-- R188: a stream number above 31 is answered BAD_ARGUMENT, reason stream. -/
theorem streamRequest_badNumber (ready : RequestReady code p rest s) (high : 31 < argument p 0) :
    Host.Outcome.next (φ := Fault) (ρ := Refusal) (whileRunning s (runRequest code (onStream body))) =
      .next (offerReply (badArgumentReply p 1) (takeRequest rest s)) := by
  have number : indexOf 32 (operand (requestOperands p) 0) = none := indexOf_eq_none high
  rw [whileRunning_running ready.1, runRequest_ready ready, onStream, number]
  rfl

/-- R179: a request on a stream that the part has is carried out by its own rule. -/
theorem streamRequest_run {n : Fin 32} (ready : RequestReady code p rest s) (stream : argument p 0 = n.val) :
    Host.Outcome.next (φ := Fault) (ρ := Refusal) (whileRunning s (runRequest code (onStream body))) =
      .next
        (answerRequest p (body n (requestOperands p) (takeRequest rest s)).2
          (body n (requestOperands p) (takeRequest rest s)).1) := by
  have number : indexOf 32 (operand (requestOperands p) 0) = some n := indexOf_eq_some stream
  rw [whileRunning_running ready.1, runRequest_ready ready, onStream, number]

end

/-- R181: the reply to a request whose rule ends well. -/
theorem answerRequest_ok (p : List Word) (results : List Word) (s : State) :
    answerRequest p (.ok results) s = offerReply (okReply p results) s := rfl

theorem checked_of_fails {checks : List (Bool × Answer)} {a : Answer} (h : firstFailure checks = some a) (s : State)
    (effect : State × Answer) : checked checks s effect = (s, a) := by
  rw [checked, h]

theorem checked_of_good {checks : List (Bool × Answer)} (h : firstFailure checks = none) (s : State)
    (effect : State × Answer) : checked checks s effect = effect := by
  rw [checked, h]

/-! ## The reads (R36, R54, R80) -/

/-- The first `k` indexes of a table are those below `k`. -/
theorem take_finRange_eq_filter (n k : Nat) :
    (List.finRange n).take k = (List.finRange n).filter fun i => decide (i.val < k) := by
  induction n generalizing k with
  | zero => simp
  | succ n ih =>
    cases k with
    | zero => simp
    | succ k =>
      rw [List.finRange_succ, List.take_succ_cons, ← List.map_take, ih, List.filter_cons, List.filter_map]
      simp [Function.comp_def]

theorem toList_eq_map_indexes {α : Type} {n : Nat} (v : Vector α n) : v.toList = (indexes n).map fun i => v[i] := by
  apply List.ext_getElem
  · simp [indexes]
  · intro i _ _
    simp [indexes]

/-- R80: the buffers of the ring, in order, are those with an index below the ring length. -/
theorem ringStatusWords_eq (n : Fin 32) (s : State) :
    ringStatusWords n s =
      num s.entries[n].fields.ringLength ::
        ((indexes 8).filter (fun i => decide (i.val < s.entries[n].fields.ringLength))).flatMap
          (fun i => bufferWords s.rings[n][i]) := by
  rw [ringStatusWords, toList_eq_map_indexes, ← List.map_take, indexes, take_finRange_eq_filter, List.flatMap_map]
  rfl

/-- R188: bit `i` of a presence word tells whether the item at `i` is present. -/
theorem getLsbD_presence (present : List Bool) {i : Nat} (h : i < 32) :
    (presence present).getLsbD i = present.getD i false := by
  induction present generalizing i with
  | nil => simp [presence]
  | cons b rest ih =>
    have shifted : presence (b :: rest) = (presence rest <<< 1) ||| (if b then 1#32 else 0#32) := rfl
    rw [shifted, getLsbD_shiftLeft_or_bit]
    cases i with
    | zero => rfl
    | succ i =>
      rw [if_neg (Nat.succ_ne_zero i), decide_eq_true h, Bool.true_and, Nat.add_sub_cancel, ih (Nat.lt_of_succ_lt h)]
      rfl

theorem streamStatusWords_eq (c : StreamContext) :
    streamStatusWords c =
      [presence
         [c.lastInterval.isSome, c.intervalMin.isSome, c.intervalMax.isSome, c.rateClass.isSome, c.lastFrameNumber.isSome],
       num c.state.code, num c.intervalCounter, flag c.measuring, optNum c.lastInterval, optNum c.intervalMin,
       optNum c.intervalMax, optNum (c.rateClass.map RateClass.code), num c.lockProgress, num c.cadenceRun,
       num c.windowTicks, num c.windowFrames, optField c.lastFrameNumber, c.sequenceCounter, field c.fillTagCounter,
       num c.writesOutstanding, flag c.refusing] := by
  have whole : field c.sequenceCounter = c.sequenceCounter := BitVec.setWidth_eq _
  rw [streamStatusWords, whole]

/-- Settles O43: each read on a stream number above 31, and on a stream that the part has. -/
theorem streamReads : Obligations.StreamReads := by
  intro p rest s
  refine ⟨fun ready high => streamRequest_badNumber ready high, fun ready high => streamRequest_badNumber ready high,
    fun ready high => streamRequest_badNumber ready high, fun n stream => ⟨fun ready => ?_, fun ready => ?_, fun ready => ?_⟩,
    fun present i low _ => getLsbD_presence present low⟩
  · exact streamRequest_run ready stream
  · rw [← streamStatusWords_eq]
    exact streamRequest_run ready stream
  · rw [← ringStatusWords_eq]
    exact streamRequest_run ready stream

/-! ## WRITE_STREAM_ENTRY (R35, R37) -/

theorem sourceOf_isSome (code : Nat) : (sourceOf code).isSome = decide (code ≤ 4) := by
  match code with
  | 0 | 1 | 2 | 3 | 4 => rfl
  | k + 5 =>
    rw [decide_eq_false (by omega)]
    rfl

theorem code_of_sourceOf {code : Nat} {source : StreamSource} (h : sourceOf code = some source) : source.code = code := by
  match code with
  | 0 | 1 | 2 | 3 | 4 => cases h; rfl
  | _ + 5 => cases h

theorem wordOrderOf_isSome (code : Nat) : (wordOrderOf code).isSome = decide (code ≤ 1) := by
  match code with
  | 0 | 1 => rfl
  | k + 2 =>
    rw [decide_eq_false (by omega)]
    rfl

theorem wordOrderOf_getD (code : Nat) : (wordOrderOf code).getD .normal = if code = 1 then .swapped else .normal := by
  match code with
  | 0 | 1 => rfl
  | k + 2 =>
    rw [if_neg (by omega)]
    rfl

theorem gapCheckStored_of_le {w : Word} (h : w.toNat ≤ 1) : gapCheckStored w = decide (w.toNat = 1) := by
  have cases01 : w = 0#32 ∨ w = 1#32 := by bv_omega
  rcases cases01 with rfl | rfl
  · rfl
  · rfl

/-- R35: the checks after the stream number, with their bounds. -/
theorem streamEntryChecks_eq (n : Fin 32) (ops : List Word) (s : State) :
    streamEntryChecks n ops s =
      [(decide (s.contexts[n].state = .off), .refused), (decide (operand ops 1 ≤ 4), .badArgument 2),
       (decide (operand ops 2 < s.memory.blocks), .badArgument 3),
       (decide (1 ≤ operand ops 3 ∧ operand ops 3 ≤ 4096), .badArgument 4),
       (decide (2 ≤ operand ops 4 ∧ operand ops 4 ≤ 8), .badArgument 5),
       (decide (operand ops 5 ≤ 4096), .badArgument 6), (decide (operand ops 6 ≤ 1), .badArgument 7),
       (decide (operand ops 7 ≤ 0xFFFFFE ∧ operand ops 8 ≤ 0xFFFFFE), .badArgument 8),
       (decide (1 ≤ operand ops 9 ∧ operand ops 9 ≤ 15), .badArgument 9),
       (decide (1 ≤ operand ops 10 ∧ operand ops 10 ≤ 15), .badArgument 10),
       (decide (1 ≤ operand ops 11 ∧ operand ops 11 ≤ 15), .badArgument 11),
       (decide (1 ≤ operand ops 12 ∧ operand ops 12 ≤ 15), .badArgument 12)] := by
  simp only [streamEntryChecks, sourceOf_isSome, wordOrderOf_isSome, within_eq_decide, Nat.zero_le, true_and,
    ← Bool.decide_and]
  rfl

theorem exec_writeStreamEntry {p : List Word} {rest : List (List Word)} {s : State} {n : Fin 32}
    (ready : RequestReady 0x06#8 p rest s) (stream : argument p 0 = n.val) :
    exec .writeStreamEntry s = .next
      (answerRequest p
        (checked (streamEntryChecks n (requestOperands p) s) (takeRequest rest s)
          (storeStreamEntry n (streamFieldsOf (requestOperands p)) (takeRequest rest s), .ok [])).2
        (checked (streamEntryChecks n (requestOperands p) s) (takeRequest rest s)
          (storeStreamEntry n (streamFieldsOf (requestOperands p)) (takeRequest rest s), .ok [])).1) :=
  streamRequest_run ready stream

/-- R35: operands that pass the check of the source name one. -/
theorem source_of_checks {n : Fin 32} {ops : List Word} {s : State} (h : firstFailure (streamEntryChecks n ops s) = none) :
    ((sourceOf (operand ops 1)).getD (.ingress 0)).code = operand ops 1 := by
  have named := (firstFailure_none _).mp h ((sourceOf (operand ops 1)).isSome, .badArgument 2) (by simp [streamEntryChecks])
  obtain ⟨source, hsource⟩ := Option.isSome_iff_exists.mp named
  rw [hsource]
  exact code_of_sourceOf hsource

/-- Settles O44: the first check that fails decides, else the whole entry is replaced. -/
theorem streamEntryWritten : Obligations.StreamEntryWritten := by
  intro p rest s ready
  refine ⟨fun high => streamRequest_badNumber ready high, fun n stream => ?_⟩
  intro first
  have checks : firstFailure (streamEntryChecks n (requestOperands p) s) = first := by
    rw [streamEntryChecks_eq]
    rfl
  rw [exec_writeStreamEntry ready stream]
  refine ⟨fun refused => ?_, fun reason bad => ?_, fun good => ?_⟩
  · rw [checked_of_fails (checks.trans refused)]
    rfl
  · rw [checked_of_fails (checks.trans bad)]
    rfl
  · refine ⟨_, _, source_of_checks (checks.trans good), fun low => gapCheckStored_of_le low, ?_⟩
    have order := wordOrderOf_getD (argument p 6)
    rw [checked_of_good (checks.trans good), ← order]
    rfl

/-! ## ENABLE_STREAM (R39, R40) -/

theorem mem_othersNotOff (s : State) (n m : Fin 32) :
    m ∈ othersNotOff s n ↔ m ≠ n ∧ s.contexts[m].state ≠ .off := by
  simp [othersNotOff, mem_indexes]

theorem regionsMeet_eq_false_iff (a b : StreamFields) :
    regionsMeet a b = false ↔
      a.regionBase + a.bufferSize * a.ringLength ≤ b.regionBase ∨
        b.regionBase + b.bufferSize * b.ringLength ≤ a.regionBase := by
  rw [regionsMeet, Bool.and_eq_false_iff, decide_eq_false_iff_not, decide_eq_false_iff_not, Nat.not_lt, Nat.not_lt,
    or_comm]
  rfl

/-- R39: the checks after the entry's parity, each as the rule gives it. -/
theorem enableChecks_eq (n : Fin 32) (s : State) :
    enableChecks n s =
      [(decide (s.entries[n].fields.regionBase + s.entries[n].fields.bufferSize * s.entries[n].fields.ringLength
          ≤ s.memory.blocks), .badArgument 3),
       (decide (s.entries[n].fields.expectedBursts = 0 ∨
          s.entries[n].fields.expectedBursts ≤ s.entries[n].fields.bufferSize), .badArgument 4),
       (decide (s.entries[n].fields.windowMin ≤ s.entries[n].fields.windowMax), .badArgument 5),
       (decide (∀ m : Fin 32, m ≠ n → s.contexts[m].state ≠ .off →
          s.entries[n].fields.regionBase + s.entries[n].fields.bufferSize * s.entries[n].fields.ringLength
              ≤ s.entries[m].fields.regionBase ∨
            s.entries[m].fields.regionBase + s.entries[m].fields.bufferSize * s.entries[m].fields.ringLength
              ≤ s.entries[n].fields.regionBase), .badArgument 6),
       (decide (s.entries[n].fields.source ≠ .generator ∨ ∀ m : Fin 32, m ≠ n → s.contexts[m].state ≠ .off →
          s.entries[m].fields.source ≠ .generator), .badArgument 7)] := by
  have bursts : (s.entries[n].fields.expectedBursts == 0 ||
        decide (s.entries[n].fields.expectedBursts ≤ s.entries[n].fields.bufferSize)) =
      decide (s.entries[n].fields.expectedBursts = 0 ∨
        s.entries[n].fields.expectedBursts ≤ s.entries[n].fields.bufferSize) :=
    (Bool.decide_or _ _).symm
  have overlap : ((othersNotOff s n).all fun m => !regionsMeet (fieldsOf s n) (fieldsOf s m)) =
      decide (∀ m : Fin 32, m ≠ n → s.contexts[m].state ≠ .off →
        s.entries[n].fields.regionBase + s.entries[n].fields.bufferSize * s.entries[n].fields.ringLength
            ≤ s.entries[m].fields.regionBase ∨
          s.entries[m].fields.regionBase + s.entries[m].fields.bufferSize * s.entries[m].fields.ringLength
            ≤ s.entries[n].fields.regionBase) := by
    rw [Bool.eq_iff_iff, decide_eq_true_iff]
    simp only [List.all_eq_true, mem_othersNotOff, Bool.not_eq_true', regionsMeet_eq_false_iff, and_imp]
    rfl
  have generator : (s.entries[n].fields.source != .generator ||
        (othersNotOff s n).all fun m => (fieldsOf s m).source != .generator) =
      decide (s.entries[n].fields.source ≠ .generator ∨ ∀ m : Fin 32, m ≠ n → s.contexts[m].state ≠ .off →
        s.entries[m].fields.source ≠ .generator) := by
    rw [Bool.eq_iff_iff, decide_eq_true_iff]
    simp only [Bool.or_eq_true, List.all_eq_true, mem_othersNotOff, bne_iff_ne, and_imp]
    rfl
  rw [← bursts, ← overlap, ← generator]
  rfl

/-- R37, R39, R40: the rule of EnableStream for a stream that the part has. -/
def enableOne (n : Fin 32) (s : State) : State × Answer :=
  if s.contexts[n].state ≠ .off then (s, .refused)
  else if s.entries[n].parityGood then checked (enableChecks n s) s (modifyContext n enabledContext s, .ok [])
  else (majorFault .tableParity .streamTable n.val none s, .badArgument 2)

theorem exec_enableStream {p : List Word} {rest : List (List Word)} {s : State} {n : Fin 32}
    (ready : RequestReady 0x07#8 p rest s) (stream : argument p 0 = n.val) :
    exec .enableStream s = .next
      (answerRequest p (enableOne n (takeRequest rest s)).2 (enableOne n (takeRequest rest s)).1) :=
  streamRequest_run ready stream

theorem enableOne_inUse {n : Fin 32} {s : State} (h : s.contexts[n].state ≠ .off) : enableOne n s = (s, .refused) :=
  if_pos h

theorem enableOne_badParity {n : Fin 32} {s : State} (off : s.contexts[n].state = .off)
    (bad : s.entries[n].parityGood = false) :
    enableOne n s = (majorFault .tableParity .streamTable n.val none s, .badArgument 2) := by
  rw [enableOne, if_neg (not_not.mpr off), if_neg (by rw [bad]; decide)]

theorem enableOne_checked {n : Fin 32} {s : State} (off : s.contexts[n].state = .off)
    (good : s.entries[n].parityGood = true) :
    enableOne n s = checked (enableChecks n s) s (modifyContext n enabledContext s, .ok []) := by
  rw [enableOne, if_neg (not_not.mpr off), if_pos good]

/-! ## DISABLE_STREAM (R51) -/

/-- R51: the rule of DisableStream for a stream that the part has. -/
def disableOne (n : Fin 32) (s : State) : State × Answer :=
  if inService s.contexts[n].state then (enterClosing n s, .ok []) else (s, .refused)

theorem exec_disableStream {p : List Word} {rest : List (List Word)} {s : State} {n : Fin 32}
    (ready : RequestReady 0x08#8 p rest s) (stream : argument p 0 = n.val) :
    exec .disableStream s = .next
      (answerRequest p (disableOne n (takeRequest rest s)).2 (disableOne n (takeRequest rest s)).1) :=
  streamRequest_run ready stream

theorem inService_iff (st : StreamState) : inService st = true ↔ st ≠ .off ∧ st ≠ .closing := by
  cases st <;> decide

theorem disableOne_idle {n : Fin 32} {s : State} (h : s.contexts[n].state = .off ∨ s.contexts[n].state = .closing) :
    disableOne n s = (s, .refused) := by
  refine if_neg fun service => ?_
  obtain ⟨notOff, notClosing⟩ := (inService_iff _).mp service
  rcases h with off | closing
  · exact notOff off
  · exact notClosing closing

theorem disableOne_inService {n : Fin 32} {s : State} (notOff : s.contexts[n].state ≠ .off)
    (notClosing : s.contexts[n].state ≠ .closing) : disableOne n s = (enterClosing n s, .ok []) :=
  if_pos ((inService_iff _).mpr ⟨notOff, notClosing⟩)

/-- Settles O45: EnableStream by its checks in their order, and DisableStream. -/
theorem streamServiceRequests : Obligations.StreamServiceRequests := by
  intro p rest s
  refine ⟨fun ready => ⟨fun high => streamRequest_badNumber ready high, fun n stream => ?_⟩,
    fun ready => ⟨fun high => streamRequest_badNumber ready high, fun n stream => ?_⟩⟩
  · rw [exec_enableStream ready stream]
    refine ⟨fun inUse => ?_, fun off bad => ?_, fun off good => ?_⟩
    · rw [enableOne_inUse (s := takeRequest rest s) inUse]
      rfl
    · rw [enableOne_badParity (s := takeRequest rest s) off bad]
      rfl
    · intro f first
      have checks : firstFailure (enableChecks n (takeRequest rest s)) = first := by
        rw [enableChecks_eq]
        rfl
      rw [enableOne_checked (s := takeRequest rest s) off good]
      refine ⟨fun reason fails => ?_, fun passes => ?_⟩
      · rw [checked_of_fails (checks.trans fails)]
        rfl
      · rw [checked_of_good (checks.trans passes)]
        rfl
  · rw [exec_disableStream ready stream]
    refine ⟨fun idle => ?_, fun notOff notClosing => ?_⟩
    · rw [disableOne_idle (s := takeRequest rest s) idle]
      rfl
    · rw [disableOne_inService (s := takeRequest rest s) notOff notClosing, answerRequest_ok]

end Sys2Proof.Machine
end

section
/-! PROOFS. The frame ring of a stream: the target of a frame start (R64), what a START or SINGLE does (R62 to R66), and what a BODY or
END does (R67 to R71). -/

namespace Sys2Proof.Machine

/-! ## The buffer in FILLING (R62, R68, R71) -/

theorem fillingBuffer_state {s : State} {n : Fin 32} {i : Fin 8} (h : fillingBuffer s n = some i) :
    (bufferOf s ⟨n, i⟩).state = .filling := by
  have found := List.find?_some h
  simpa using found

theorem fillingBuffer_eq_none_iff (s : State) (n : Fin 32) :
    fillingBuffer s n = none ↔ ∀ i : Fin 8, (bufferOf s ⟨n, i⟩).state ≠ .filling := by
  simp [fillingBuffer, List.find?_eq_none, mem_indexes]

theorem bufferOf_abandon_same (b : BufferName) (cause : Nat) (s : State) :
    bufferOf (abandon b cause s) b = emptied (bufferOf s b) :=
  bufferOf_modifyBuffer_same b emptied s

theorem bufferOf_abandon_other {b c : BufferName} (cause : Nat) (s : State) (h : b ≠ c) :
    bufferOf (abandon b cause s) c = bufferOf s c :=
  bufferOf_modifyBuffer_other s b emptied c h

/-- R62: where one buffer of a stream at most is FILLING, its abandonment leaves none. -/
theorem fillingBuffer_abandon {s : State} {n : Fin 32} {i : Fin 8} (one : OneFilling s)
    (h : fillingBuffer s n = some i) (cause : Nat) : fillingBuffer (abandon ⟨n, i⟩ cause s) n = none := by
  rw [fillingBuffer_eq_none_iff]
  intro j filling
  by_cases same : i = j
  · subst same
    rw [bufferOf_abandon_same] at filling
    cases filling
  · have other : (⟨n, i⟩ : BufferName) ≠ ⟨n, j⟩ := fun e => same (BufferName.mk.inj e).2
    rw [bufferOf_abandon_other cause s other] at filling
    exact same (one n i j (fillingBuffer_state h) filling)

/-! ## The target of a frame start (R64) -/

/-- R64 step 2: a READY or SHOWN buffer that no slot holds. -/
def Reclaimable (s : State) (n : Fin 32) (j : Fin 8) : Prop :=
  (bufferOf s ⟨n, j⟩).complete = true ∧ (bufferOf s ⟨n, j⟩).holdCount = 0

/-- R64: the age of the sequence of a buffer of the ring. -/
def bufferAge (s : State) (n : Fin 32) (j : Fin 8) : Nat :=
  sequenceAge s.contexts[n].sequenceCounter (bufferOf s ⟨n, j⟩)

/-- R64 step 2: the choice among the indexes given is a reclaimable buffer of the greatest age, or none where none is reclaimable. -/
def OldestOf (s : State) (n : Fin 32) (is : List (Fin 8)) (best : Option (Fin 8)) : Prop :=
  (best = none → ∀ j ∈ is, ¬ Reclaimable s n j) ∧
    ∀ i, best = some i → i ∈ is ∧ Reclaimable s n i ∧ ∀ j ∈ is, Reclaimable s n j → bufferAge s n j ≤ bufferAge s n i

/-- R64: how one more index changes the choice. -/
theorem oldestUnheld_concat (s : State) (n : Fin 32) (is : List (Fin 8)) (j : Fin 8) [Decidable (Reclaimable s n j)] :
    oldestUnheld s n (is ++ [j]) =
      if Reclaimable s n j then
        match oldestUnheld s n is with
        | none => some j
        | some i => if bufferAge s n i < bufferAge s n j then some j else some i
      else oldestUnheld s n is := by
  have cond : ((bufferOf s ⟨n, j⟩).complete && (bufferOf s ⟨n, j⟩).holdCount == 0) = true ↔ Reclaimable s n j := by
    rw [Bool.and_eq_true, beq_iff_eq]
    rfl
  unfold oldestUnheld
  rw [List.foldl_append]
  exact if_congr cond rfl rfl

/-- R64 step 2: the search of the ring finds the oldest. -/
theorem oldestUnheld_oldest (s : State) (n : Fin 32) (is : List (Fin 8)) : OldestOf s n is (oldestUnheld s n is) := by
  classical
  induction is using List.reverseRecOn with
  | nil => exact ⟨fun _ _ h => by simp at h, fun _ h => by cases h⟩
  | append_singleton is j ih =>
    obtain ⟨absent, present⟩ := ih
    rw [oldestUnheld_concat]
    by_cases free : Reclaimable s n j
    · rw [if_pos free]
      cases best : oldestUnheld s n is with
      | none =>
        have only := absent best
        refine ⟨nofun, fun i chosen => ?_⟩
        obtain rfl : j = i := Option.some.inj chosen
        refine ⟨by simp, free, fun k hk unheld => ?_⟩
        rcases List.mem_append.mp hk with earlier | last
        · exact absurd unheld (only k earlier)
        · rw [List.mem_singleton.mp last]
      | some i =>
        obtain ⟨mem, unheld, oldest⟩ := present i best
        dsimp only
        split
        · rename_i older
          refine ⟨nofun, fun k chosen => ?_⟩
          obtain rfl : j = k := Option.some.inj chosen
          refine ⟨by simp, free, fun k hk held => ?_⟩
          rcases List.mem_append.mp hk with earlier | last
          · exact (oldest k earlier held).trans older.le
          · rw [List.mem_singleton.mp last]
        · rename_i younger
          refine ⟨nofun, fun k chosen => ?_⟩
          obtain rfl : i = k := Option.some.inj chosen
          refine ⟨List.mem_append_left _ mem, unheld, fun k hk held => ?_⟩
          rcases List.mem_append.mp hk with earlier | last
          · exact oldest k earlier held
          · rw [List.mem_singleton.mp last]
            exact Nat.not_lt.mp younger
    · rw [if_neg free]
      refine ⟨fun noTarget k hk held => ?_, fun i chosen => ?_⟩
      · rcases List.mem_append.mp hk with earlier | last
        · exact absent noTarget k earlier held
        · exact free (List.mem_singleton.mp last ▸ held)
      · obtain ⟨mem, unheld, oldest⟩ := present i chosen
        refine ⟨List.mem_append_left _ mem, unheld, fun k hk held => ?_⟩
        rcases List.mem_append.mp hk with earlier | last
        · exact oldest k earlier held
        · exact absurd (List.mem_singleton.mp last ▸ held) free

theorem mem_ringIndexes (f : StreamFields) (i : Fin 8) : i ∈ ringIndexes f ↔ i.val < f.ringLength := by
  simp [ringIndexes, mem_indexes]

/-- R64 step 1: the EMPTY buffer with the lowest index. -/
theorem chooseTarget_empty {s : State} {n : Fin 32} {i : Fin 8} (inRing : i.val < s.entries[n].fields.ringLength)
    (empty : (bufferOf s ⟨n, i⟩).state = .empty) (lowest : ∀ j < i, (bufferOf s ⟨n, j⟩).state ≠ .empty) :
    chooseTarget s n = some i := by
  have passes : decide (i.val < (fieldsOf s n).ringLength) = true := decide_eq_true inRing
  have found : (ringIndexes (fieldsOf s n)).find? (fun j => (bufferOf s ⟨n, j⟩).state == .empty) = some i := by
    rw [ringIndexes, List.find?_filter, List.find?_eq_some_iff_getElem]
    refine ⟨by simp only [passes, empty]; rfl, i.val, by simp [indexes], by simp [indexes], fun j hj => ?_⟩
    have other := lowest ⟨j, hj.trans i.isLt⟩ hj
    simp [indexes, other]
  rw [chooseTarget, found]

/-- R64 step 2: with none EMPTY the choice falls to the oldest. -/
theorem chooseTarget_full {s : State} {n : Fin 32}
    (full : ∀ j : Fin 8, j.val < s.entries[n].fields.ringLength → (bufferOf s ⟨n, j⟩).state ≠ .empty) :
    chooseTarget s n = oldestUnheld s n (ringIndexes s.entries[n].fields) := by
  have missed : (ringIndexes (fieldsOf s n)).find? (fun j => (bufferOf s ⟨n, j⟩).state == .empty) = none := by
    rw [List.find?_eq_none]
    intro j hj
    simpa using full j ((mem_ringIndexes _ j).mp hj)
  rw [chooseTarget, missed]
  rfl

/-- Settles O17: the search for an EMPTY buffer, then the search for the oldest. -/
theorem targetChoice : Obligations.TargetChoice := by
  intro n s
  refine ⟨fun i inRing empty lowest => chooseTarget_empty inRing empty lowest, fun full => ?_⟩
  rw [chooseTarget_full full]
  obtain ⟨absent, present⟩ := oldestUnheld_oldest s n (ringIndexes s.entries[n].fields)
  refine ⟨fun i chosen => ?_, fun noTarget j inRing => absent noTarget j ((mem_ringIndexes _ j).mpr inRing), fun noneFree => ?_⟩
  · obtain ⟨mem, ⟨complete, unheld⟩, oldest⟩ := present i chosen
    exact ⟨(mem_ringIndexes _ i).mp mem, complete, unheld,
      fun j inRing complete unheld => oldest j ((mem_ringIndexes _ j).mpr inRing) ⟨complete, unheld⟩⟩
  · rw [Option.eq_none_iff_forall_ne_some]
    intro i chosen
    obtain ⟨mem, free, _⟩ := present i chosen
    exact noneFree i ((mem_ringIndexes _ i).mp mem) free

/-! ## A burst joins the write queue (R53, R61) -/

/-- R61, R53: the state with the write entry of a burst appended, before the checker's STREAM tap sees the burst (R162). -/
def appended (n : Fin 32) (i : Fin 8) (b : Burst) (last : Bool) (s : State) : State :=
  modifyContext n (fun c => { c with writesOutstanding := c.writesOutstanding + 1 })
    { s with writeQueue := s.writeQueue ++ [writeEntryOf s n i b last] }

theorem appendWrite_eq (n : Fin 32) (i : Fin 8) (b : Burst) (last : Bool) (s : State) :
    appendWrite n i b last s = tapStream n b.kind b.payload (appended n i b last s) := rfl

/-- R62, R71: the part after a frame start has abandoned the buffer that it finds in FILLING. -/
def abandonFilling (n : Fin 32) (s : State) : State :=
  match fillingBuffer s n with
  | none => s
  | some i => abandon ⟨n, i⟩ 4 s

theorem abandonFilling_of_idle {n : Fin 32} {s : State} (idle : fillingBuffer s n = none) : abandonFilling n s = s := by
  simp only [abandonFilling, idle]

theorem abandonFilling_of_filling {n : Fin 32} {s : State} {i : Fin 8} (h : fillingBuffer s n = some i) :
    abandonFilling n s = abandon ⟨n, i⟩ 4 s := by
  simp only [abandonFilling, h]

theorem abandonFilling_keeps (n : Fin 32) (s : State) : Keeps [.rings, .live, .latches] s (abandonFilling n s) := by
  unfold abandonFilling
  split
  · exact Keeps.refl _ s
  · exact abandon_keeps _ 4 s

theorem abandonFilling_entries (n : Fin 32) (s : State) : (abandonFilling n s).entries = s.entries :=
  abandonFilling_keeps n s .entries (by decide)

theorem fillingBuffer_abandonFilling {s : State} (one : OneFilling s) (n : Fin 32) :
    fillingBuffer (abandonFilling n s) n = none := by
  cases h : fillingBuffer s n with
  | none => rwa [abandonFilling_of_idle h]
  | some i => rw [abandonFilling_of_filling h, fillingBuffer_abandon one h]

/-! ## START and SINGLE (R63 to R66) -/

/-- R63: a frame start that fails a check is damaged. -/
theorem ringFrameStart_damaged {n : Fin 32} {b : Burst} {s : State} {cause : Nat}
    (fault : frameStartFault s.entries[n].fields b = some cause) :
    ringFrameStart n b s = damage n cause (abandonFilling n s) := by
  rw [← abandonFilling_entries n s] at fault
  cases h : fillingBuffer s n with
  | none =>
    rw [abandonFilling_of_idle h] at fault ⊢
    simp only [ringFrameStart, h, fieldsOf, fault]
  | some i =>
    rw [abandonFilling_of_filling h] at fault ⊢
    simp only [ringFrameStart, h, fieldsOf, fault]

/-- R64: a frame start that passes its checks goes by its target. -/
theorem ringFrameStart_good {n : Fin 32} {b : Burst} {s : State}
    (good : frameStartFault s.entries[n].fields b = none) :
    ringFrameStart n b s =
      ((chooseTarget (abandonFilling n s) n).elim (refuseFrame n) fun i => claimTarget n i b) (abandonFilling n s) := by
  rw [← abandonFilling_entries n s] at good
  cases h : fillingBuffer s n with
  | none =>
    rw [abandonFilling_of_idle h] at good ⊢
    simp only [ringFrameStart, h, fieldsOf, good]
    cases chooseTarget s n <;> rfl
  | some i =>
    rw [abandonFilling_of_filling h] at good ⊢
    simp only [ringFrameStart, h, fieldsOf, good]
    cases chooseTarget (abandon ⟨n, i⟩ 4 s) n <;> rfl

/-- R66: a frame start that finds no target is refused. -/
theorem ringFrameStart_refused {n : Fin 32} {b : Burst} {s : State}
    (good : frameStartFault s.entries[n].fields b = none) (noTarget : chooseTarget (abandonFilling n s) n = none) :
    ringFrameStart n b s = refuseFrame n (abandonFilling n s) := by
  rw [ringFrameStart_good good, noTarget]
  rfl

/-- R62: where one buffer at most is FILLING, its abandonment may as well come first. -/
theorem ringFrameStart_of_filling {n : Fin 32} {s : State} {i : Fin 8} (one : OneFilling s)
    (h : fillingBuffer s n = some i) (b : Burst) :
    ringFrameStart n b s = ringFrameStart n b (abandon ⟨n, i⟩ 4 s) := by
  simp only [ringFrameStart, h, fillingBuffer_abandon one h]

theorem index_of_frameStart {f : StreamFields} {b : Burst} (h : frameStartFault f b = none) : b.index = 0 := by
  unfold frameStartFault at h
  split at h
  · cases h
  · rename_i first
    exact not_not.mp first

/-- R65, R70: the record of the target with the first burst of its frame written. -/
def startedRecord (tag : BitVec 8) (b : Burst) (r : Buffer) : Buffer :=
  { r with
    state := if b.kind = .singleBurst then .sealing else .filling
    fillTag := tag
    sourceFrame := some b.frameNumber
    nextIndex := if b.kind = .singleBurst then none else some 1
    lastWords := if b.kind = .singleBurst then some b.payload.length else none
    burstCount := if b.kind = .singleBurst then some 1 else none
    sequence := none, stamp := none, mediaError := false }

/-- R57, R61, R65: the state after a frame start that found its target, before the checker's STREAM tap sees the burst. -/
def startWritten (n : Fin 32) (i : Fin 8) (b : Burst) (s : State) : State :=
  { s with
    rings := s.rings.set n (s.rings[n].set i (startedRecord s.contexts[n].fillTagCounter b s.rings[n][i]))
    contexts := s.contexts.set n
      { s.contexts[n] with
        fillTagCounter := s.contexts[n].fillTagCounter + 1#8
        writesOutstanding := s.contexts[n].writesOutstanding + 1 }
    writeQueue := s.writeQueue ++
      [{ stream := n, buffer := i, fillTag := s.contexts[n].fillTagCounter,
         target := s.entries[n].fields.regionBase + i.val * s.entries[n].fields.bufferSize,
         payload := orderedPayload s.entries[n].fields.wordOrder b.payload,
         lastBurst := b.kind == .singleBurst, state := .queued }]
    live := { s.live with
      streams := s.live.streams.set n
        (if s.rings[n][i].state = .ready then
          { s.live.streams[n] with dropped := bump s.counterMode s.live.streams[n].dropped 1 }
         else s.live.streams[n]) } }

/-- R57: DROPPED counts where the target reclaims a READY buffer. -/
theorem countDropped_eq (n : Fin 32) (i : Fin 8) (s : State) :
    (if (bufferOf s ⟨n, i⟩).state = .ready then countStream n .dropped s else s) =
      { s with
        live := { s.live with
          streams := s.live.streams.set n
            (if s.rings[n][i].state = .ready then
              { s.live.streams[n] with dropped := bump s.counterMode s.live.streams[n].dropped 1 }
             else s.live.streams[n]) } } := by
  by_cases ready : s.rings[n][i].state = .ready
  · rw [if_pos ready, if_pos (show (bufferOf s ⟨n, i⟩).state = .ready from ready)]
    rfl
  · rw [if_neg ready, if_neg (show ¬ (bufferOf s ⟨n, i⟩).state = .ready from ready), table_set_same]

/-- R65, R57, R70: the claim of the target as a whole state. -/
theorem claimTarget_eq {b : Burst} (first : b.index = 0) (n : Fin 32) (i : Fin 8) (s : State) :
    claimTarget n i b s = tapStream n b.kind b.payload (startWritten n i b s) := by
  unfold claimTarget
  rw [countDropped_eq]
  dsimp only
  by_cases single : b.kind = .singleBurst
  · rw [if_pos single, sealFrame, appendWrite_eq]
    congr 1
    simp [appended, startWritten, startedRecord, writeEntryOf, bufferOf, modifyContext, modifyBuffer, modifyAt,
      filledRecord, sealedRecord, bufferBase, fieldsOf, single, first]
  · rw [if_neg single, appendWrite_eq]
    congr 1
    simp [appended, startWritten, startedRecord, writeEntryOf, bufferOf, modifyContext, modifyBuffer, modifyAt,
      filledRecord, bufferBase, fieldsOf, single, first]

/-- R65: a frame start that finds its target writes its burst there. -/
theorem ringFrameStart_claims {n : Fin 32} {i : Fin 8} {b : Burst} {s : State}
    (good : frameStartFault s.entries[n].fields b = none) (target : chooseTarget (abandonFilling n s) n = some i) :
    ringFrameStart n b s = tapStream n b.kind b.payload (startWritten n i b (abandonFilling n s)) := by
  rw [ringFrameStart_good good, target]
  exact claimTarget_eq (index_of_frameStart good) n i _

/-- Settles O16: the abandonment, then the check that fails, the refusal or the claim, and the dispatcher's row by its decision. -/
theorem frameStartInRing : Obligations.FrameStartInRing := by
  refine ⟨fun n b s begins => ⟨fun one i filling => ?_, fun idle => ?_, rfl⟩,
    fun p n b s next kind tag normal service parity source room => ?_⟩
  · exact ⟨fillingBuffer_abandon one filling 4, ringFrameStart_of_filling one filling b⟩
  · have begun : abandonFilling n s = s := abandonFilling_of_idle idle
    refine ⟨fun cause fault => ?_, fun good noTarget => ?_, fun i good target => ?_⟩
    · rw [ringFrameStart_damaged fault, begun]
      rfl
    · rw [ringFrameStart_refused good (begun.symm ▸ noTarget), begun]
      rfl
    · have written : ringFrameStart n b s = tapStream n b.kind b.payload (startWritten n i b s) := by
        rw [ringFrameStart_claims good (begun.symm ▸ target), begun]
      exact ⟨written, written ▸ tapStream_keeps n b.kind b.payload _⟩
  · have begins : beginsFrame b.kind = true := (beginsFrame_iff b.kind).mpr kind
    have media : b.kind.isMedia = true := by rcases kind with kind | kind <;> rw [kind] <;> rfl
    obtain ⟨_, _, _, _, accepted⟩ := decideMedia_cases (p := p) (b := b) s tag
    rw [exec_dispatchBurst_of_next next, decideBurst_media s media, accepted normal service parity source, if_pos room,
      acceptBurst, if_pos begins]

/-! ## BODY and END (R67 to R70) -/

/-- R60, R67: a BODY or END begins no frame, and the ring alone acts on it. -/
theorem acceptBurst_continuing {b : Burst} (kind : b.kind = .bodyBurst ∨ b.kind = .endBurst) (n : Fin 32) (s : State) :
    acceptBurst n b s = ringContinue n b s := by
  have begins : beginsFrame b.kind = false := by rcases kind with kind | kind <;> rw [kind] <;> rfl
  rw [acceptBurst, begins]
  rfl

theorem ringContinue_orphan {n : Fin 32} {s : State} (idle : fillingBuffer s n = none) (b : Burst) :
    ringContinue n b s = countStream n .orphans s := by
  simp only [ringContinue, idle]

/-- R68, R71: a burst that fails a check abandons the buffer. -/
theorem ringContinue_damaged {n : Fin 32} {i : Fin 8} {b : Burst} {s : State} {cause : Nat}
    (filling : fillingBuffer s n = some i)
    (fault : continuationFault s.entries[n].fields (bufferOf s ⟨n, i⟩) b = some cause) :
    ringContinue n b s = abandon ⟨n, i⟩ cause s := by
  simp only [ringContinue, filling, fieldsOf, fault]

/-- R69, R70: a burst that passes is appended, and an END seals the frame. -/
theorem ringContinue_passes {n : Fin 32} {i : Fin 8} {b : Burst} {s : State} (filling : fillingBuffer s n = some i)
    (good : continuationFault s.entries[n].fields (bufferOf s ⟨n, i⟩) b = none) :
    ringContinue n b s =
      if b.kind = .endBurst then sealFrame n i b s
      else
        appendWrite n i b false
          (modifyBuffer ⟨n, i⟩ (fun r => { r with nextIndex := r.nextIndex.map (· + 1) }) s) := by
  simp only [ringContinue, filling, fieldsOf, good]

/-- R68: a burst that passes has the next index of its frame. -/
theorem nextIndex_of_continuation {f : StreamFields} {r : Buffer} {b : Burst} (h : continuationFault f r b = none) :
    r.nextIndex = some b.index := by
  unfold continuationFault at h
  split at h
  · cases h
  · rename_i first
    exact (not_not.mp first).symm

/-- R69, R70: the record of the buffer with one more burst of its frame written. -/
def continuedRecord (b : Burst) (r : Buffer) : Buffer :=
  if b.kind = .endBurst then
    { r with state := .sealing, lastWords := some b.payload.length, burstCount := some (b.index + 1), nextIndex := none }
  else { r with nextIndex := some (b.index + 1) }

/-- R61, R69, R70: the state after a BODY or END that passed its checks, before the checker's STREAM tap sees the burst. -/
def continuationWritten (n : Fin 32) (i : Fin 8) (b : Burst) (s : State) : State :=
  { s with
    rings := s.rings.set n (s.rings[n].set i (continuedRecord b s.rings[n][i]))
    contexts := s.contexts.set n
      { s.contexts[n] with writesOutstanding := s.contexts[n].writesOutstanding + 1 }
    writeQueue := s.writeQueue ++
      [{ stream := n, buffer := i, fillTag := s.rings[n][i].fillTag,
         target := s.entries[n].fields.regionBase + i.val * s.entries[n].fields.bufferSize + b.index,
         payload := orderedPayload s.entries[n].fields.wordOrder b.payload,
         lastBurst := b.kind == .endBurst, state := .queued }] }

theorem ringContinue_eq {n : Fin 32} {i : Fin 8} {b : Burst} {s : State} (filling : fillingBuffer s n = some i)
    (good : continuationFault s.entries[n].fields (bufferOf s ⟨n, i⟩) b = none) :
    ringContinue n b s = tapStream n b.kind b.payload (continuationWritten n i b s) := by
  have next : s.rings[n.val][i.val].nextIndex = some b.index := nextIndex_of_continuation good
  rw [ringContinue_passes filling good]
  by_cases ends : b.kind = .endBurst
  · rw [if_pos ends, sealFrame, appendWrite_eq]
    congr 1
    simp [appended, continuationWritten, continuedRecord, writeEntryOf, bufferOf, modifyContext, modifyBuffer, modifyAt,
      sealedRecord, bufferBase, fieldsOf, ends]
  · rw [if_neg ends, appendWrite_eq]
    congr 1
    simp [appended, continuationWritten, continuedRecord, writeEntryOf, bufferOf, modifyContext, modifyBuffer, modifyAt,
      bufferBase, fieldsOf, ends, next]

/-- R61: the four bytes of a word in reverse order. -/
theorem swapBytes_append (b0 b1 b2 b3 : BitVec 8) :
    swapBytes (b0 ++ b1 ++ b2 ++ b3 : BitVec 32) = (b3 ++ b2 ++ b1 ++ b0 : BitVec 32) := by
  have fourth : (b0 ++ b1 ++ b2 ++ b3 : BitVec 32).extractLsb' 0 8 = b3 := BitVec.extractLsb'_append_eq_right
  have third : (b0 ++ b1 ++ b2 ++ b3 : BitVec 32).extractLsb' 8 8 = b2 := by
    rw [BitVec.extractLsb'_append_eq_of_le (by decide)]
    exact BitVec.extractLsb'_append_eq_right
  have second : (b0 ++ b1 ++ b2 ++ b3 : BitVec 32).extractLsb' 16 8 = b1 := by
    iterate 2 rw [BitVec.extractLsb'_append_eq_of_le (by decide)]
    exact BitVec.extractLsb'_append_eq_right
  have first : (b0 ++ b1 ++ b2 ++ b3 : BitVec 32).extractLsb' 24 8 = b0 := by
    iterate 3 rw [BitVec.extractLsb'_append_eq_of_le (by decide)]
    exact BitVec.extractLsb'_eq_self
  rw [swapBytes, first, second, third, fourth]

/-- Settles O18: the orphan, the check that fails, and the burst written; then the word order. -/
theorem continuingBurst : Obligations.ContinuingBurst := by
  refine ⟨fun n b s kind => ?_, fun _ => rfl, fun b0 b1 b2 b3 ws => ?_⟩
  · rw [acceptBurst_continuing kind]
    refine ⟨fun idle => ringContinue_orphan idle b, fun i filling => ⟨fun cause fault => ?_, fun good => ?_⟩, fun _ => rfl⟩
    · exact ringContinue_damaged filling fault
    · have written := ringContinue_eq filling good
      exact ⟨written, written ▸ tapStream_keeps n b.kind b.payload _⟩
  · exact congrArg (· :: orderedPayload .swapped ws) (swapBytes_append b0 b1 b2 b3)

end Sys2Proof.Machine
end

section
/-! PROOFS. The laws of the rings that every step keeps: each hold count is the number of slots that hold the buffer (R58), and a stream
has at most one buffer in FILLING (R62). -/

namespace Sys2Proof.Machine

/-! ## Changes that neither law can see -/

/-- No slot takes or leaves a buffer, no hold count changes, and no buffer comes to FILLING. -/
structure RingsCalm (s t : State) : Prop where
  current : ∀ k : Fin 16, t.slots[k].current = s.slots[k].current
  holdCount : ∀ b, (bufferOf t b).holdCount = (bufferOf s b).holdCount
  filling : ∀ b, (bufferOf t b).state = .filling → (bufferOf s b).state = .filling

theorem RingsCalm.refl (s : State) : RingsCalm s s := ⟨fun _ => rfl, fun _ => rfl, fun _ h => h⟩

theorem RingsCalm.trans {s t u : State} (h : RingsCalm s t) (g : RingsCalm t u) : RingsCalm s u :=
  ⟨fun k => (g.current k).trans (h.current k), fun b => (g.holdCount b).trans (h.holdCount b),
    fun b filling => h.filling b (g.filling b filling)⟩

theorem RingsCalm.of_eq {s t : State} (slots : t.slots = s.slots) (rings : t.rings = s.rings) : RingsCalm s t := by
  have same (b : BufferName) : bufferOf t b = bufferOf s b := by
    unfold bufferOf
    rw [rings]
  exact ⟨fun k => by rw [slots], fun b => by rw [same], fun b => by rw [same]; exact id⟩

theorem RingsCalm.of_apart {touched : List Field} {s t : State} (hk : Keeps touched s t)
    (apart : Field.slots ∉ touched ∧ Field.rings ∉ touched) : RingsCalm s t :=
  .of_eq (hk .slots apart.1) (hk .rings apart.2)

/-- A change of a buffer record that keeps its hold count and does not bring it to FILLING. -/
def CalmRecord (f : Buffer → Buffer) : Prop :=
  ∀ r, (f r).holdCount = r.holdCount ∧ ((f r).state = .filling → r.state = .filling)

theorem calmRecord_emptied : CalmRecord emptied := fun _ => ⟨rfl, nofun⟩

theorem calmRecord_purged : CalmRecord purged := by
  intro r
  unfold purged
  split
  · exact calmRecord_emptied r
  · exact ⟨rfl, id⟩

theorem calmRecord_released : CalmRecord released := by
  intro r
  unfold released
  split
  · exact calmRecord_emptied r
  · exact ⟨rfl, id⟩

theorem bufferOf_modifyBuffer (b c : BufferName) (f : Buffer → Buffer) (s : State) :
    bufferOf (modifyBuffer b f s) c = if b = c then f (bufferOf s b) else bufferOf s c := by
  split
  · rename_i same
    subst same
    exact bufferOf_modifyBuffer_same b f s
  · rename_i other
    exact bufferOf_modifyBuffer_other s b f c other

theorem ringsCalm_modifyBuffer {f : Buffer → Buffer} (hf : CalmRecord f) (b : BufferName) (s : State) :
    RingsCalm s (modifyBuffer b f s) := by
  have record (c : BufferName) :
      (bufferOf (modifyBuffer b f s) c).holdCount = (bufferOf s c).holdCount ∧
        ((bufferOf (modifyBuffer b f s) c).state = .filling → (bufferOf s c).state = .filling) := by
    rw [bufferOf_modifyBuffer]
    split
    · rename_i same
      subst same
      exact hf _
    · exact ⟨rfl, id⟩
  exact ⟨fun _ => rfl, fun c => (record c).1, fun c => (record c).2⟩

theorem ringsCalm_modifyRing {f : Buffer → Buffer} (hf : CalmRecord f) (n : Fin 32) (s : State) :
    RingsCalm s (modifyRing n f s) := by
  have record (c : BufferName) :
      (bufferOf (modifyRing n f s) c).holdCount = (bufferOf s c).holdCount ∧
        ((bufferOf (modifyRing n f s) c).state = .filling → (bufferOf s c).state = .filling) := by
    show (modifyAt s.rings n (mapTable f))[c.stream][c.ring].holdCount = _ ∧
      ((modifyAt s.rings n (mapTable f))[c.stream][c.ring].state = _ → _)
    rw [modifyAt_get]
    split
    · rename_i same
      rw [mapTable_get, ← same]
      exact hf _
    · exact ⟨rfl, id⟩
  exact ⟨fun _ => rfl, fun c => (record c).1, fun c => (record c).2⟩

theorem ringsCalm_modifySlot {f : SlotContext → SlotContext} (hf : ∀ c, (f c).current = c.current) (k : Fin 16)
    (s : State) : RingsCalm s (modifySlot k f s) := by
  refine ⟨fun j => ?_, fun _ => rfl, fun _ => id⟩
  show (modifyAt s.slots k f)[j].current = _
  rw [modifyAt_get]
  split
  · rename_i same
    rw [hf, same]
  · rfl

/-! ## Abandonment, purge and release (R71, R75, R77) -/

theorem ringsCalm_abandon (b : BufferName) (cause : Nat) (s : State) : RingsCalm s (abandon b cause s) :=
  (ringsCalm_modifyBuffer calmRecord_emptied b s).trans (.of_apart (damage_keeps b.stream cause _) (by decide))

theorem ringsCalm_goLost (n : Fin 32) (cause : Nat) (s : State) : RingsCalm s (goLost n cause s) := by
  refine RingsCalm.trans ?_ (ringsCalm_modifyRing calmRecord_purged n _)
  exact .of_eq rfl rfl

theorem ringsCalm_releaseBuffer (n : Fin 32) (i : Fin 8) (s : State) : RingsCalm s (releaseBuffer n i s) := by
  have calm := ringsCalm_modifyBuffer calmRecord_released ⟨n, i⟩ s
  rw [releaseBuffer_eq]
  split
  · exact calm.trans (.of_apart (damage_keeps n 4 _) (by decide))
  · exact calm

theorem ringsCalm_enterClosing (n : Fin 32) (s : State) : RingsCalm s (enterClosing n s) := by
  have closing : RingsCalm s (modifyContext n closingContext s) := .of_eq rfl rfl
  have released : RingsCalm s (closingReleased n s) :=
    forEach_keeps (RingsCalm s) _ (fun i t calm => calm.trans (ringsCalm_releaseBuffer n i t)) _ _ closing
  have aborted := released.trans (.of_apart (abortGeneratorOf_keeps n _) (by decide))
  have routed := aborted.trans (.of_apart (misrouteWaiting_keeps n _) (by decide))
  exact routed.trans (.of_apart (settleClosing_keeps n _) (by decide))

theorem ringsCalm_entryParityFailure (n : Fin 32) (s : State) : RingsCalm s (entryParityFailure n s) :=
  (RingsCalm.of_apart (majorFault_keeps .tableParity .streamTable n.val none s) (by decide)).trans
    (ringsCalm_enterClosing n _)

theorem ringsCalm_checkEntry (n : Fin 32) (s : State) : RingsCalm s (checkEntry n s) := by
  unfold checkEntry
  split
  · exact ringsCalm_entryParityFailure n s
  · exact .refl s

/-! ## The stream context at a frame start and at a tick (R41 to R49) -/

theorem ringsCalm_judgeCadence (n : Fin 32) (interval : Nat) (s : State) : RingsCalm s (judgeCadence n interval s) := by
  have counted (f : StreamContext → StreamContext) :
      RingsCalm s (countStream n .cadenceErrors (modifyContext n f s)) := .of_eq rfl rfl
  unfold judgeCadence
  split
  · exact .of_eq rfl rfl
  · dsimp only
    split
    · exact (counted _).trans (ringsCalm_goLost n 1 _)
    · exact counted _

theorem ringsCalm_judgeInterval (n : Fin 32) (interval : Nat) (s : State) : RingsCalm s (judgeInterval n interval s) := by
  unfold judgeInterval
  split
  · exact .of_apart (judgeToLock_keeps n interval s) (by decide)
  · exact .of_apart (judgeToLock_keeps n interval s) (by decide)
  · exact ringsCalm_judgeCadence n interval s
  · exact .refl s
  · exact .refl s

theorem ringsCalm_frameStartContext (n : Fin 32) (frame : BitVec 16) (s : State) :
    RingsCalm s (frameStartContext n frame s) := by
  have gap : RingsCalm s (gapCounted n frame s) := .of_apart (gapCounted_keeps n frame s) (by decide)
  have starting : RingsCalm s (frameStarting n frame s) := gap.trans (.of_eq rfl rfl)
  rw [frameStartContext_eq]
  split
  · exact starting.trans (ringsCalm_judgeInterval n _ _)
  · exact starting

theorem ringsCalm_judgeActivity (n : Fin 32) (s : State) : RingsCalm s (judgeActivity n s) := by
  unfold judgeActivity
  split
  · split
    · exact ringsCalm_goLost n 0 s
    · exact .of_eq rfl rfl
  · exact .refl s

/-! ## The ring at a frame start and at a BODY or END (R62 to R70) -/

theorem ringsCalm_abandonFilling (n : Fin 32) (s : State) : RingsCalm s (abandonFilling n s) := by
  unfold abandonFilling
  split
  · exact .refl s
  · exact ringsCalm_abandon _ 4 s

theorem calmRecord_continuedRecord (b : Burst) : CalmRecord (continuedRecord b) := by
  intro r
  unfold continuedRecord
  split
  · exact ⟨rfl, nofun⟩
  · exact ⟨rfl, id⟩

theorem ringsCalm_ringContinue (n : Fin 32) (b : Burst) (s : State) : RingsCalm s (ringContinue n b s) := by
  cases filling : fillingBuffer s n with
  | none =>
    rw [ringContinue_orphan filling]
    exact .of_eq rfl rfl
  | some i =>
    cases fault : continuationFault s.entries[n].fields (bufferOf s ⟨n, i⟩) b with
    | some cause =>
      rw [ringContinue_damaged filling fault]
      exact ringsCalm_abandon _ cause s
    | none =>
      rw [ringContinue_eq filling fault]
      have recorded := ringsCalm_modifyBuffer (calmRecord_continuedRecord b) ⟨n, i⟩ s
      have written : RingsCalm s (continuationWritten n i b s) := recorded.trans (.of_eq rfl rfl)
      exact written.trans (.of_apart (tapStream_keeps n b.kind b.payload _) (by decide))

/-- R63 to R66: a frame start leaves the abandonment that it begins with, or claims a target. -/
theorem ringFrameStart_calm_or_claims (n : Fin 32) (b : Burst) (s : State) :
    RingsCalm (abandonFilling n s) (ringFrameStart n b s) ∨
      ∃ i, RingsCalm (startWritten n i b (abandonFilling n s)) (ringFrameStart n b s) := by
  cases fault : frameStartFault s.entries[n].fields b with
  | some cause =>
    rw [ringFrameStart_damaged fault]
    exact .inl (.of_apart (damage_keeps n cause _) (by decide))
  | none =>
    cases target : chooseTarget (abandonFilling n s) n with
    | none =>
      rw [ringFrameStart_refused fault target]
      exact .inl (.of_apart (refuseFrame_keeps n _) (by decide))
    | some i =>
      rw [ringFrameStart_claims fault target]
      exact .inr ⟨i, .of_apart (tapStream_keeps n b.kind b.payload _) (by decide)⟩

theorem bufferOf_startWritten (n : Fin 32) (i : Fin 8) (b : Burst) (s : State) (c : BufferName) :
    bufferOf (startWritten n i b s) c =
      if ⟨n, i⟩ = c then startedRecord s.contexts[n].fillTagCounter b (bufferOf s ⟨n, i⟩) else bufferOf s c :=
  bufferOf_modifyBuffer ⟨n, i⟩ c (startedRecord s.contexts[n].fillTagCounter b) s

/-! ## What a law of the rings has to answer for -/

/-- A law of the rings that the changes keep which a slot or a frame start makes: it takes or leaves a buffer, or brings one to FILLING. -/
structure RingLaw (law : State → Prop) : Prop where
  calm : ∀ {s t}, law s → RingsCalm s t → law t
  reset : law State.reset
  leave : ∀ {s} (k : Fin 16), law s → law (releaseCurrent k s)
  take : ∀ {s} (k : Fin 16) (b : BufferName) (f : SlotContext → SlotContext), s.slots[k].current = none →
    (∀ c, (f c).current.map CurrentFrame.buffer = some b) → law s → law (modifySlot k f (takeHold b s))
  start : ∀ {s} (n : Fin 32) (b : Burst), law s → law (ringFrameStart n b s)

section
variable {law : State → Prop} (hl : RingLaw law) {s : State}
include hl

theorem RingLaw.apart {touched : List Field} {t : State} (hs : law s) (hk : Keeps touched s t)
    (apart : Field.slots ∉ touched ∧ Field.rings ∉ touched) : law t := hl.calm hs (.of_apart hk apart)

theorem RingLaw.same {t : State} (hs : law s) (slots : t.slots = s.slots) (rings : t.rings = s.rings) : law t :=
  hl.calm hs (.of_eq slots rings)

/-! ### The dispatcher (R8 to R11) -/

theorem RingLaw.acceptBurst (hs : law s) (n : Fin 32) (b : Burst) : law (acceptBurst n b s) := by
  unfold Machine.acceptBurst
  split
  · exact hl.start n b (hl.calm hs (ringsCalm_frameStartContext n _ s))
  · exact hl.calm hs (ringsCalm_ringContinue n b s)

theorem RingLaw.decideMedia (hs : law s) (p : Fin 4) (b : Burst) : law (decideMedia p b s) := by
  have finished (t : State) (ht : law t) : law (finishBurst p t) := hl.apart ht (finishBurst_keeps t p) (by decide)
  unfold Machine.decideMedia
  split
  · exact finished s hs
  · have checked := hl.calm hs (ringsCalm_checkEntry (streamOfTag b.tag) s)
    unfold routeMedia
    split
    · split
      · exact hl.acceptBurst (finished _ checked) _ b
      · exact hl.same checked rfl rfl
    · exact hl.apart (finished _ checked) (misroute_keeps p _) (by decide)

theorem RingLaw.decideBurst (hs : law s) (p : Fin 4) (b : Burst) : law (decideBurst p b s) := by
  have finished : law (finishBurst p s) := hl.apart hs (finishBurst_keeps s p) (by decide)
  unfold Machine.decideBurst
  split
  · exact hl.apart finished (intakeRequest_keeps p b _) (by decide)
  · exact hl.decideMedia hs p b
  · exact hl.decideMedia hs p b
  · exact hl.decideMedia hs p b
  · exact hl.decideMedia hs p b
  · exact finished
  · exact finished

theorem RingLaw.dispatch (hs : law s) : law (dispatch s) := by
  unfold Machine.dispatch
  split
  · split
    · exact hs
    · split
      · exact hs
      · exact hl.decideBurst hs _ _
  · exact hs

theorem RingLaw.retryWaiting (hs : law s) : law (retryWaiting s) := by
  have free : law { s with dispatcher := { s.dispatcher with waiting := none } } := hl.same hs rfl rfl
  unfold Machine.retryWaiting
  split
  · split
    · exact hs
    · split
      · exact free
      · exact hl.decideBurst free _ _
  · exact hs

/-! ### A slot at a tick (R87 to R101) -/

theorem RingLaw.setSlot (hs : law s) (k : Fin 16) {f : SlotContext → SlotContext} (hf : ∀ c, (f c).current = c.current) :
    law (modifySlot k f s) := hl.calm hs (ringsCalm_modifySlot hf k s)

theorem RingLaw.beginEmission (hs : law s) (k : Fin 16) (r : EmissionRecord) : law (beginEmission k r s) := by
  have counted : law (countSlot k .emitted 1 s) := hl.same hs rfl rfl
  exact hl.same (hl.setSlot (f := fun c => { c with outputFrame := c.outputFrame + 1#16 }) counted k fun _ => rfl) rfl rfl

theorem RingLaw.substitute (hs : law s) (k : Fin 16) (cause : SubstCause) : law (substitute k cause s) := by
  have left := hl.setSlot (f := fun t => { t with state := .subst, holdTimer := 0, cause := some cause })
    (hl.leave k hs) k fun _ => rfl
  have told := hl.apart (hl.apart left (countSlot_keeps _ k 1 .substitutes) (by decide))
    (raiseSubstitute_keeps k s.slots[k].state cause _) (by decide)
  unfold Machine.substitute
  dsimp only
  split
  · exact told
  · unfold emitSubstitute
    split
    · exact told
    · exact hl.beginEmission told k _

theorem RingLaw.repeatFrame (hs : law s) (k : Fin 16) (st : SlotState) (timer : Nat) (b : BufferName) :
    law (repeatFrame k st timer b s) := by
  have set := hl.setSlot (f := fun c => { c with state := st, holdTimer := timer }) hs k fun _ => rfl
  exact hl.beginEmission (hl.apart set (countSlot_keeps _ k 1 .repeats) (by decide)) k _

/-- R94: the old buffer is let go before the new one is held. -/
theorem RingLaw.takeNew (hs : law s) (k : Fin 16) (b : BufferName) : law (takeNew k b s) := by
  have free : (releaseCurrent k s).slots[k].current = none := by
    rw [releaseCurrent_slots]
    exact congrArg SlotContext.current (modifyAt_same s.slots k fun c => { c with current := none })
  have taken := hl.take k b (fun c =>
    { c with
      state := .run, current := some { buffer := b, sequence := (bufferOf s b).sequence.getD 0 }, holdTimer := 0
      cause := none }) free (fun _ => rfl) (hl.leave k hs)
  exact hl.beginEmission (hl.apart taken (countSlot_keeps _ k _ .skips) (by decide)) k _

theorem RingLaw.chooseLocked (hs : law s) (k : Fin 16) (n : Fin 32) : law (chooseLocked k n s) := by
  unfold Machine.chooseLocked
  dsimp only
  split
  · split
    · exact hl.substitute hs k _
    · split
      · exact hl.substitute hs k _
      · exact hl.repeatFrame hs k _ _ _
  · split
    · exact hl.takeNew hs k _
    · split
      · exact hl.substitute hs k _
      · split
        · exact hl.substitute hs k _
        · exact hl.repeatFrame hs k _ _ _

theorem RingLaw.chooseUnlocked (hs : law s) (k : Fin 16) : law (chooseUnlocked k s) := by
  unfold Machine.chooseUnlocked
  dsimp only
  split
  · exact hl.substitute hs k _
  · split
    · split
      · exact hl.setSlot hs k fun _ => rfl
      · split
        · exact hl.substitute hs k _
        · exact hl.repeatFrame hs k _ _ _
    · split
      · exact hl.substitute hs k _
      · split
        · exact hl.substitute hs k _
        · exact hl.repeatFrame hs k _ _ _

theorem RingLaw.choose (hs : law s) (k : Fin 16) (failed : Bool) : law (choose k failed s) := by
  unfold Machine.choose
  dsimp only
  split
  · exact hl.substitute hs k _
  · split
    · split
      · exact hl.substitute hs k _
      · split
        · exact hl.substitute hs k _
        · exact hl.substitute hs k _
        · exact hl.chooseLocked hs k _
        · exact hl.chooseUnlocked hs k
        · exact hl.chooseUnlocked hs k
    · exact hl.setSlot (hl.leave k hs) k fun _ => rfl

theorem RingLaw.expireHold (hs : law s) (k : Fin 16) : law (expireHold k s) := by
  unfold Machine.expireHold
  split
  · refine hl.substitute ?_ k _
    exact hl.setSlot hs k fun _ => rfl
  · exact hs

theorem RingLaw.routeParityFailure (hs : law s) (k : Fin 16) : law (routeParityFailure k s) :=
  hl.apart (hl.same (t := modifyRoute k _ s) hs rfl rfl) (majorFault_keeps .tableParity .routeTable k.val none _) (by decide)

theorem RingLaw.adoptPending (hs : law s) (k : Fin 16) : law (adoptPending k s) := by
  unfold Machine.adoptPending
  split
  · exact hs
  · split
    · unfold adoptEntry
      dsimp only
      split
      · refine hl.setSlot ?_ k fun _ => rfl
        exact hl.same hs rfl rfl
      · exact hl.same hs rfl rfl
    · exact hl.routeParityFailure hs k

theorem RingLaw.checkActive (hs : law s) (k : Fin 16) : law (checkActive k s) := by
  unfold Machine.checkActive
  split
  · exact hl.routeParityFailure hs k
  · exact hs

theorem RingLaw.slotWork (hs : law s) (k : Fin 16) : law (slotWork k s) := by
  have adopted := hl.adoptPending (hl.expireHold hs k) k
  have cut := hl.apart adopted (cutIfLate_keeps k _) (by decide)
  have chosen (failed : Bool) := hl.choose (hl.checkActive cut k) k failed
  unfold Machine.slotWork
  dsimp only
  unfold countDownHold
  split
  · exact hl.setSlot (chosen _) k fun _ => rfl
  · exact chosen _

/-! ### The generator and the tick (R20, R157, R158) -/

theorem RingLaw.takeGenerated (hs : law s) : law (takeGenerated s) := by
  unfold Machine.takeGenerated
  split
  · split
    · exact hl.apart (hl.acceptBurst hs _ _) (afterTaking_keeps _ _) (by decide)
    · exact hs
  · exact hs

theorem RingLaw.startGeneratedFrame (hs : law s) : law (startGeneratedFrame s) := by
  have record (g : Generator) : law { s with generator := g } := hl.same hs rfl rfl
  unfold Machine.startGeneratedFrame
  split
  · split
    · exact hs
    · split
      · exact hl.takeGenerated (hl.apart (record _) (offerBurst_keeps _ _) (by decide))
      · exact hl.calm (record _) (ringsCalm_entryParityFailure _ _)
  · exact hs

theorem RingLaw.doTickWork (hs : law s) (w : TickWork) : law (doTickWork w s) := by
  cases w with
  | count n => exact hl.apart hs (countTick_keeps n s) (by decide)
  | judge n => exact hl.calm hs (ringsCalm_judgeActivity n s)
  | slot k => exact hl.slotWork hs k
  | generator => exact hl.startGeneratedFrame hs

theorem RingLaw.makeTick (hs : law s) (order : List TickWork) : law (makeTick order s) := by
  have judged : law (forEach (indexes 32) Machine.judgeActivity s) :=
    forEach_keeps law _ (fun n t ht => hl.calm ht (ringsCalm_judgeActivity n t)) _ s hs
  have finished : law (finishTick s) := forEach_keeps law _ (fun k _ ht => hl.expireHold ht k) _ _ judged
  exact forEach_keeps law _ (fun w _ ht => hl.doTickWork ht w) _ _ (hl.apart finished (numberTick_keeps _) (by decide))

/-! ### The rows of the reference unit (R22 to R27) -/

omit hl in
theorem RingLaw.whileClocked (hs : law s) {f : State → State} (hf : law (f s)) : law (whileClocked f s) := by
  unfold Machine.whileClocked
  split
  · exact hf
  · exact hs

theorem RingLaw.setReference (hs : law s) (f : Reference → Reference) : law (modifyReference f s) := hl.same hs rfl rfl

theorem RingLaw.freeExpiry (hs : law s) (order : List TickWork) : law (freeExpiry order s) := by
  unfold Machine.freeExpiry
  split
  · exact hl.setReference (hl.makeTick hs order) _
  · exact hs

theorem RingLaw.closeWindow (hs : law s) (order : List TickWork) : law (closeWindow order s) := by
  have counted : law (countReference .flywheelTicks (Machine.makeTick order s)) := hl.same (hl.makeTick hs order) rfl rfl
  unfold Machine.closeWindow
  split
  · exact hl.setReference (hl.apart (hl.setReference counted _) (raiseAtClose_keeps _ _ _) (by decide)) _
  · exact hs

theorem RingLaw.searchFlywheel (hs : law s) (order : List TickWork) : law (searchFlywheel order s) := by
  unfold Machine.searchFlywheel
  split
  · exact hl.same (hl.makeTick hs order) rfl rfl
  · exact hs

theorem RingLaw.edgeWhileFollowing (hs : law s) (order : List TickWork) : law (edgeWhileFollowing order s) := by
  rcases edgeWhileFollowing_cases order s with stray | ticks | ignored
  · rw [stray]
    exact hl.same hs rfl rfl
  · have ticked : law (tickedInWindow order s) := hl.same (hl.makeTick hs order) rfl rfl
    rw [ticks, edgeInWindow_eq]
    split
    · exact hl.apart ticked (raiseRefState_keeps _ _) (by decide)
    · exact ticked
  · rwa [ignored]

theorem RingLaw.edgeWhileSearching (hs : law s) (order : List TickWork) : law (edgeWhileSearching order s) := by
  have tracking : law (raiseRefState .tracking (modifyReference regained s)) := hl.same hs rfl rfl
  unfold Machine.edgeWhileSearching
  split
  · unfold regain
    dsimp only
    split
    · exact hl.setReference (hl.makeTick tracking order) _
    · exact hl.setReference tracking _
  · exact hl.setReference hs _

theorem RingLaw.seeEdge (hs : law s) (order : List TickWork) : law (seeEdge order s) := by
  unfold Machine.seeEdge
  split
  · exact hs
  · exact hl.edgeWhileFollowing hs order
  · exact hl.edgeWhileFollowing hs order
  · exact hl.edgeWhileSearching hs order

/-! ### The completions of the write queue and of a slot read (R72, R79) -/

theorem RingLaw.completeWrite (hs : law s) (e : WriteEntry) (rest : List WriteEntry) : law (completeWrite e rest s) := by
  have ended (c : StreamContext → StreamContext) : law (modifyContext e.stream c
      (endAccess { s with memory := s.memory.store (64 * e.target) e.payload, writeQueue := rest })) := hl.same hs rfl rfl
  have told (t : State) (ht : law t) : law (ringCompletion e t) := by
    unfold ringCompletion
    dsimp only
    split
    · have completed := ringsCalm_modifyBuffer
        (f := completedRecord (t.contexts[e.stream].sequenceCounter + 1#32) t.reference.tickNumber)
        (fun _ => ⟨rfl, nofun⟩) ⟨e.stream, e.buffer⟩ t
      exact hl.same (hl.calm ht completed) rfl rfl
    · exact ht
  exact hl.apart (hl.apart (told _ (ended _)) (settleClosing_keeps _ _) (by decide)) (judgeAccess_keeps _ _ _ _ _)
    (by decide)

theorem RingLaw.completeSlotRead (hs : law s) (k : Fin 16) (r : SlotRead) : law (completeSlotRead k r s) := by
  have taken (f : EmissionUnit → EmissionUnit) : law (modifyEmission k f (endAccess s)) := hl.same hs rfl rfl
  unfold Machine.completeSlotRead
  dsimp only
  refine hl.apart ?_ (judgeAccess_keeps _ _ _ _ _) (by decide)
  split
  · unfold reportMediaError
    split
    · refine hl.calm (taken _) (ringsCalm_modifyBuffer ?_ r.buffer _)
      exact fun _ => ⟨rfl, id⟩
    · exact taken _
  · exact taken _

/-! ### The resets (R186) and the reply that brings one (R185) -/

theorem RingLaw.resetBlocks (s : State) : law (resetBlocks s) := hl.same hl.reset rfl rfl

theorem RingLaw.beginPinReset (hs : law s) : law (beginPinReset s) := by
  unfold Machine.beginPinReset
  split
  · exact hs
  · exact hl.same hl.reset rfl rfl

theorem RingLaw.burstDone (hs : law s) (p : Fin 4) (from_ : Participant) (b : Burst) : law (burstDone p from_ b s) := by
  cases from_ with
  | slotEntry k => exact hl.apart hs (burstDone_slot_keeps p k b s) (by decide)
  | slotAbort k => exact hs
  | reply =>
    show law (replyDone s)
    unfold replyDone
    split
    · exact hs
    · split
      · exact hl.same hl.reset rfl rfl
      · exact hl.same hs rfl rfl

theorem RingLaw.grantEgress (hs : law s) (p : Fin 4) : law (grantEgress p s) := by
  have taken (i : Fin 17) : law (takeBurst p i s) := hl.apart hs (takeBurst_keeps p i s) (by decide)
  unfold Machine.grantEgress
  split
  · split
    · exact hs
    · split
      · exact hs
      · split
        · exact hl.apart (taken _) (startSending_keeps p _ _ _) (by decide)
        · exact hl.burstDone (hl.apart (taken _) (countEgress_keeps _ p _) (by decide)) p _ _
  · exact hs

theorem RingLaw.completeEgress (hs : law s) (p : Fin 4) : law (completeEgress p s) := by
  unfold Machine.completeEgress
  split
  · exact hs
  · refine hl.burstDone ?_ p _ _
    exact hl.same hs rfl rfl

/-! ### DisableStream (R51) -/

theorem RingLaw.bodyDisableStream (hs : law s) (ops : List Word) : law (bodyDisableStream ops s).1 := by
  unfold Machine.bodyDisableStream onStream
  split
  · exact hs
  · dsimp only
    split
    · dsimp only
      exact hl.calm hs (ringsCalm_enterClosing _ s)
    · exact hs

theorem RingLaw.disableStream (hs : law s) (code : BitVec 8) : law (runRequest code Machine.bodyDisableStream s) := by
  rcases runRequest_cases code Machine.bodyDisableStream s with same | ⟨p, rest, _, run⟩
  · rwa [same]
  · have taken : law (takeRequest rest s) := hl.same hs rfl rfl
    rw [run]
    exact hl.apart (hl.bodyDisableStream taken _) (answerRequest_keeps p _ _) (by decide)

/-! ### Commands and steps -/

omit hl in
theorem RingLaw.of_whileRunning {t : State} {f : State → State} (hs : law s) (hf : law (f s))
    (h : Host.Outcome.next (φ := Fault) (ρ := Refusal) (whileRunning s f) = .next t) : law t := by
  injection h with h
  rw [← h]
  unfold whileRunning
  split
  · exact hs
  · exact hf

theorem RingLaw.of_writeCompletion {t : State} (hs : law s) (h : execWriteCompletion s = .next t) : law t := by
  unfold execWriteCompletion at h
  split at h
  · cases h; exact hs
  · split at h
    · cases h; exact hs
    · split at h
      · cases h; exact hl.completeWrite hs _ _
      · cases h

theorem RingLaw.of_slotReadCompletion {t : State} (hs : law s) (h : execSlotReadCompletion s = .next t) : law t := by
  unfold execSlotReadCompletion at h
  split at h
  · cases h; exact hs
  · split at h
    · cases h; exact hs
    · split at h
      · cases h; exact hl.completeSlotRead hs _ _
      · cases h

/-- The law at each command that can touch the rings or the slots; every other command leaves both. -/
theorem RingLaw.exec (c : Instr) (s t : State) (hs : law s) (h : exec c s = .next t) : law t := by
  by_cases apart : Field.slots ∉ touches c ∧ Field.rings ∉ touches c
  · exact hl.apart hs (exec_keeps h) apart
  · cases c with
    | powerOnReset memsz cells bad => cases h; exact hl.same hl.reset rfl rfl
    | pinReset memsz => cases h; exact hl.same hl.reset rfl rfl
    | pinResetBegin => cases h; exact hl.beginPinReset hs
    | dispatchBurst => exact RingLaw.of_whileRunning hs (hl.dispatch hs) h
    | waitingBurstAccepted => exact RingLaw.of_whileRunning hs (hl.retryWaiting hs) h
    | writeCompletion => exact hl.of_writeCompletion hs h
    | slotReadCompletion => exact hl.of_slotReadCompletion hs h
    | refEdge order => exact RingLaw.of_whileRunning hs (RingLaw.whileClocked hs (hl.seeEdge hs order)) h
    | freePeriodExpiry order => exact RingLaw.of_whileRunning hs (RingLaw.whileClocked hs (hl.freeExpiry hs order)) h
    | windowClose order => exact RingLaw.of_whileRunning hs (RingLaw.whileClocked hs (hl.closeWindow hs order)) h
    | searchingFlywheel order => exact RingLaw.of_whileRunning hs (RingLaw.whileClocked hs (hl.searchFlywheel hs order)) h
    | activityJudgement n => exact RingLaw.of_whileRunning hs (hl.calm hs (ringsCalm_judgeActivity n s)) h
    | holdExpired k => exact RingLaw.of_whileRunning hs (hl.expireHold hs k) h
    | generatorFrameStart => exact RingLaw.of_whileRunning hs (hl.startGeneratedFrame hs) h
    | generatorBurstTaken => exact RingLaw.of_whileRunning hs (hl.takeGenerated hs) h
    | egressGrant p => exact RingLaw.of_whileRunning hs (hl.grantEgress hs p) h
    | egressBurstCompletion p => exact RingLaw.of_whileRunning hs (hl.completeEgress hs p) h
    | disableStream => exact RingLaw.of_whileRunning hs (hl.disableStream hs _) h
    | _ => exact absurd (by simp [touches]) apart

/-- What the rings' own changes keep, every step keeps. -/
theorem RingLaw.keptByStep : KeptByStep law :=
  keptByStep_of (fun _ _ hs => hl.same hs rfl rfl) hl.exec
    fun s hs => hl.apart hs (timeUnit_keeps s) (by decide)

end

/-! ## The hold counts (R58) -/

/-- R58: the slots whose current buffer is the one given. -/
def holders (s : State) (b : BufferName) : List (Fin 16) :=
  (indexes 16).filter fun k => s.slots[k].current.map CurrentFrame.buffer == some b

theorem HoldsCounted.of_kept {s t : State} (hs : HoldsCounted s)
    (current : ∀ k : Fin 16, t.slots[k].current = s.slots[k].current)
    (holdCount : ∀ b, (bufferOf t b).holdCount = (bufferOf s b).holdCount) : HoldsCounted t := by
  intro b
  rw [holdCount, hs b]
  simp only [current]

/-- One member fewer passes a filter. -/
theorem length_filter_remove {α : Type} [DecidableEq α] {l : List α} {k : α} (once : l.Nodup) (mem : k ∈ l)
    {p q : α → Bool} (had : p k = true) (gone : q k = false) (others : ∀ j, j ≠ k → q j = p j) :
    (l.filter q).length + 1 = (l.filter p).length := by
  have erased : l.filter q = (l.filter p).erase k := by
    rw [(once.filter p).erase_eq_filter, List.filter_filter]
    apply List.filter_congr
    intro j _
    by_cases same : j = k
    · simp [same, gone]
    · simp [same, others j same]
  have found : k ∈ l.filter p := List.mem_filter.mpr ⟨mem, had⟩
  rw [erased, List.length_erase_of_mem found]
  have := List.length_pos_of_mem found
  omega

/-- Slot `k` holds buffer `b` in the one state and nothing in the other; every other slot holds the same in both. -/
structure LeavesBuffer (k : Fin 16) (b : BufferName) (held free : State) : Prop where
  had : held.slots[k].current.map CurrentFrame.buffer = some b
  gone : free.slots[k].current = none
  others : ∀ j : Fin 16, j ≠ k → free.slots[j].current = held.slots[j].current

theorem LeavesBuffer.holders_same {k : Fin 16} {b : BufferName} {held free : State} (h : LeavesBuffer k b held free) :
    (holders free b).length + 1 = (holders held b).length := by
  refine length_filter_remove (List.nodup_finRange 16) (mem_indexes k) ?_ ?_ fun j other => ?_
  · rw [h.had, beq_self_eq_true]
  · rw [h.gone]
    rfl
  · rw [h.others j other]

theorem LeavesBuffer.holders_other {k : Fin 16} {b c : BufferName} {held free : State} (h : LeavesBuffer k b held free)
    (other : b ≠ c) : holders free c = holders held c := by
  apply List.filter_congr
  intro j _
  by_cases same : j = k
  · subst same
    rw [h.gone, h.had]
    simp [other]
  · rw [h.others j same]

/-- R58: a slot without its current buffer, the others as they were. -/
theorem leavesBuffer_releaseCurrent {k : Fin 16} {s : State} {c : CurrentFrame} (h : s.slots[k].current = some c) :
    LeavesBuffer k c.buffer s (releaseCurrent k s) := by
  have slots : (releaseCurrent k s).slots = modifyAt s.slots k fun t => { t with current := none } :=
    releaseCurrent_slots k s
  refine ⟨by rw [h]; rfl, ?_, fun j other => ?_⟩
  · rw [slots, modifyAt_same]
  · rw [slots, modifyAt_other _ _ _ _ other]

theorem releaseCurrent_of_none {k : Fin 16} {s : State} (h : s.slots[k].current = none) : releaseCurrent k s = s := by
  simp only [releaseCurrent, h]

theorem bufferOf_releaseCurrent {k : Fin 16} {s : State} {c : CurrentFrame} (h : s.slots[k].current = some c)
    (b : BufferName) : bufferOf (releaseCurrent k s) b = bufferOf (letGo c.buffer s) b := by
  simp only [releaseCurrent, h]
  rfl

theorem HoldsCounted.releaseCurrent {s : State} (hs : HoldsCounted s) (k : Fin 16) : HoldsCounted (releaseCurrent k s) := by
  cases h : s.slots[k].current with
  | none => rwa [releaseCurrent_of_none h]
  | some c =>
    have leaves := leavesBuffer_releaseCurrent h
    intro b
    show (bufferOf (Machine.releaseCurrent k s) b).holdCount = (holders (Machine.releaseCurrent k s) b).length
    rw [bufferOf_releaseCurrent h]
    have before : (bufferOf s b).holdCount = (holders s b).length := hs b
    by_cases same : c.buffer = b
    · subst same
      have fewer := leaves.holders_same
      rw [letGo_holdCount, before]
      omega
    · rw [letGo_other _ _ _ same, leaves.holders_other same, before]

theorem HoldsCounted.take {s : State} (hs : HoldsCounted s) {k : Fin 16} {b : BufferName} {f : SlotContext → SlotContext}
    (free : s.slots[k].current = none) (taken : ∀ c, (f c).current.map CurrentFrame.buffer = some b) :
    HoldsCounted (modifySlot k f (takeHold b s)) := by
  have slots : (modifySlot k f (takeHold b s)).slots = modifyAt s.slots k f := rfl
  have leaves : LeavesBuffer k b (modifySlot k f (takeHold b s)) s := by
    refine ⟨?_, free, fun j other => ?_⟩
    · rw [slots, modifyAt_same]
      exact taken _
    · rw [slots, modifyAt_other _ _ _ _ other]
  intro c
  show (bufferOf (takeHold b s) c).holdCount = (holders (modifySlot k f (takeHold b s)) c).length
  have before : (bufferOf s c).holdCount = (holders s c).length := hs c
  by_cases same : b = c
  · subst same
    rw [← leaves.holders_same, ← before, takeHold, bufferOf_modifyBuffer_same]
  · rw [← leaves.holders_other same, ← before, takeHold, bufferOf_modifyBuffer_other _ _ _ _ same]

theorem HoldsCounted.ringFrameStart {s : State} (hs : HoldsCounted s) (n : Fin 32) (b : Burst) :
    HoldsCounted (ringFrameStart n b s) := by
  have abandoned := ringsCalm_abandonFilling n s
  have begun : HoldsCounted (abandonFilling n s) := hs.of_kept abandoned.current abandoned.holdCount
  rcases ringFrameStart_calm_or_claims n b s with calm | ⟨i, claims⟩
  · exact begun.of_kept calm.current calm.holdCount
  · have written : HoldsCounted (startWritten n i b (abandonFilling n s)) := by
      refine begun.of_kept (fun _ => rfl) fun c => ?_
      rw [bufferOf_startWritten]
      split
      · rename_i same
        rw [← same]
        rfl
      · rfl
    exact written.of_kept claims.current claims.holdCount

theorem ringLaw_holdsCounted : RingLaw HoldsCounted where
  calm hs calm := hs.of_kept calm.current calm.holdCount
  reset := holdsCounted_reset
  leave k hs := hs.releaseCurrent k
  take _ _ _ free taken hs := hs.take free taken
  start n b hs := hs.ringFrameStart n b

/-! ## The buffer in FILLING (R62) -/

theorem OneFilling.of_filling {s t : State} (hs : OneFilling s)
    (filling : ∀ b, (bufferOf t b).state = .filling → (bufferOf s b).state = .filling) : OneFilling t :=
  fun n i j hi hj => hs n i j (filling _ hi) (filling _ hj)

/-- R58, R78: a let-go brings no buffer to FILLING. -/
theorem filling_of_letGo {b c : BufferName} {s : State} (h : (bufferOf (letGo b s) c).state = .filling) :
    (bufferOf s c).state = .filling := by
  by_cases same : b = c
  · subst same
    by_cases opened : s.contexts[b.stream].state ≠ .closing ∨ 1 < (bufferOf s b).holdCount
    · rw [letGo_open b s opened, bufferOf_modifyBuffer_same] at h
      exact h
    · push Not at opened
      have empties : bufferOf (letGo b s) b = { emptied (bufferOf s b) with holdCount := 0 } := by
        rw [letGo_closing b s opened.1 opened.2, settleClosing_eq]
        exact bufferOf_modifyBuffer_same b _ s
      rw [empties] at h
      cases h
  · rwa [letGo_other b c s same] at h

theorem OneFilling.releaseCurrent {s : State} (hs : OneFilling s) (k : Fin 16) : OneFilling (releaseCurrent k s) := by
  cases h : s.slots[k].current with
  | none => rwa [releaseCurrent_of_none h]
  | some c =>
    refine hs.of_filling fun b filling => ?_
    rw [bufferOf_releaseCurrent h] at filling
    exact filling_of_letGo filling

/-- R58: a hold shows a READY buffer and leaves every other state. -/
theorem OneFilling.takeHold {s : State} (hs : OneFilling s) (b : BufferName) : OneFilling (takeHold b s) := by
  refine hs.of_filling fun c filling => ?_
  rw [Machine.takeHold, bufferOf_modifyBuffer] at filling
  split at filling
  · rename_i same
    subst same
    dsimp only at filling
    split at filling
    · cases filling
    · exact filling
  · exact filling

/-- R62, R65: the stream's buffer in FILLING is abandoned before another enters FILLING. -/
theorem OneFilling.ringFrameStart {s : State} (hs : OneFilling s) (n : Fin 32) (b : Burst) :
    OneFilling (ringFrameStart n b s) := by
  have begun : OneFilling (abandonFilling n s) := hs.of_filling (ringsCalm_abandonFilling n s).filling
  rcases ringFrameStart_calm_or_claims n b s with calm | ⟨i, claims⟩
  · exact begun.of_filling calm.filling
  · refine OneFilling.of_filling (s := startWritten n i b (abandonFilling n s)) ?_ claims.filling
    have idle := (fillingBuffer_eq_none_iff _ n).mp (fillingBuffer_abandonFilling hs n)
    have target (j : Fin 8) (filling : (bufferOf (startWritten n i b (abandonFilling n s)) ⟨n, j⟩).state = .filling) :
        i = j := by
      rw [bufferOf_startWritten] at filling
      split at filling
      · rename_i same
        exact (BufferName.mk.inj same).2
      · exact absurd filling (idle j)
    intro m j k hj hk
    by_cases own : m = n
    · subst own
      exact (target j hj).symm.trans (target k hk)
    · have other (l : Fin 8) : (⟨n, i⟩ : BufferName) ≠ ⟨m, l⟩ := fun e => own (BufferName.mk.inj e).1.symm
      rw [bufferOf_startWritten, if_neg (other _)] at hj hk
      exact begun m j k hj hk

theorem ringLaw_oneFilling : RingLaw OneFilling where
  calm hs calm := hs.of_filling calm.filling
  reset := oneFilling_reset
  leave k hs := hs.releaseCurrent k
  take _ b _ _ _ hs := hs.takeHold b
  start n b hs := hs.ringFrameStart n b

/-- Settles O57: both are laws of the rings, which every step keeps. -/
theorem holdsAndFillingsStayLawful : Obligations.HoldsAndFillingsStayLawful :=
  ⟨ringLaw_holdsCounted.keptByStep, ringLaw_oneFilling.keptByStep⟩

end Sys2Proof.Machine
end

section
/-! PROOFS. A tick whose choice is SUBST (R98, R100, R101), and the substitute that it begins (R111, R114, R118). -/

namespace Sys2Proof.Machine

/-! ## The blocks that a substitute places (R112, R118) -/

theorem refill_of_active {u : EmissionUnit} (h : substituteActive u.record = true) :
    refill u =
      { u with
        fifo := u.fifo ++
          (List.range (blocksToPlace u)).map fun j => substituteBlock u.record (u.record.blocksRequested + j)
        record := { u.record with blocksRequested := u.record.blocksRequested + blocksToPlace u } } :=
  if_pos h

theorem substituteActive_iff (r : EmissionRecord) :
    substituteActive r = true ↔ r.status = .active ∧ (r.sourceKind = some .fill ∨ r.sourceKind = some .ramp) := by
  simp [substituteActive]

theorem refill_of_idle {u : EmissionUnit}
    (h : u.record.status ≠ .active ∨ (u.record.sourceKind ≠ some .fill ∧ u.record.sourceKind ≠ some .ramp)) :
    refill u = u := by
  refine if_neg fun active => ?_
  obtain ⟨status, kind⟩ := (substituteActive_iff u.record).mp active
  rcases h with h | ⟨noFill, noRamp⟩
  · exact h status
  · exact kind.elim noFill noRamp

theorem substituteWords_fill {r : EmissionRecord} (h : r.sourceKind = some .fill) (position : Nat) :
    substituteWords r position = List.replicate 64 (r.fillWord.getD 0) := by
  simp only [substituteWords, h]

theorem substituteWords_ramp {r : EmissionRecord} (h : r.sourceKind = some .ramp) (position : Nat) :
    substituteWords r position = (List.range 64).map fun w => BitVec.ofNat 32 (64 * position + w) := by
  simp only [substituteWords, h, num]

/-- R118: the blocks placed are counted in the record, which else stays. -/
theorem refill_record (u : EmissionUnit) : ∃ m, (refill u).record = { u.record with blocksRequested := m } := by
  unfold refill
  split
  · exact ⟨_, rfl⟩
  · exact ⟨_, rfl⟩

/-! ## The entry to SUBST (R58, R100) -/

/-- R100: the part after a tick whose choice is SUBST, before its substitute is begun. -/
def substituted (k : Fin 16) (cause : SubstCause) (s : State) : State :=
  raiseSubstitute k s.slots[k].state cause
    (countSlot k .substitutes 1
      (modifySlot k (fun c => { c with state := .subst, holdTimer := 0, cause := some cause }) (releaseCurrent k s)))

/-- R58, R100: the slot's context after a tick whose choice is SUBST. -/
def SlotContext.inSubst (cause : SubstCause) (c : SlotContext) : SlotContext :=
  { c with state := .subst, current := none, holdTimer := 0, cause := some cause }

/-- R101: the cases in which a tick whose choice is SUBST begins no substitute. -/
def BeginsNothing (k : Fin 16) (cause : SubstCause) (s : State) : Prop :=
  cause = .table ∨ s.routes[k].active.fields.substKind = .blank

section
variable (k : Fin 16) (cause : SubstCause) (s : State)

theorem substituted_keeps : Keeps [.slots, .rings, .contexts, .live, .latches] s (substituted k cause s) :=
  ((((releaseCurrent_keeps k s).seq (modifySlot_keeps _ k _) (both := [.slots, .rings, .contexts]) (by decide)).seq
    (countSlot_keeps _ k 1 .substitutes) (both := [.slots, .rings, .contexts, .live]) (by decide)).seq
    (raiseSubstitute_keeps k s.slots[k].state cause _) (by decide))

theorem substituted_slots :
    (substituted k cause s).slots =
      modifyAt s.slots k (SlotContext.inSubst cause) := by
  have told : (substituted k cause s).slots =
      modifyAt (releaseCurrent k s).slots k fun c => { c with state := .subst, holdTimer := 0, cause := some cause } :=
    raiseSubstitute_keeps k s.slots[k].state cause _ .slots (by decide)
  have left : (releaseCurrent k s).slots = modifyAt s.slots k fun c => { c with current := none } :=
    releaseCurrent_slots k s
  rw [told, left, modifyAt_modifyAt]
  rfl

theorem substituted_slot :
    (substituted k cause s).slots[k] = SlotContext.inSubst cause s.slots[k] := by
  rw [substituted_slots, modifyAt_same]

theorem substituted_live :
    (substituted k cause s).live =
      { s.live with slots := modifyAt s.live.slots k (bumpSlot s.counterMode .substitutes 1) } := by
  have told : (substituted k cause s).live =
      { (releaseCurrent k s).live with
        slots := modifyAt (releaseCurrent k s).live.slots k (bumpSlot (releaseCurrent k s).counterMode .substitutes 1) } :=
    raiseSubstitute_keeps k s.slots[k].state cause _ .live (by decide)
  have live : (releaseCurrent k s).live = s.live := releaseCurrent_keeps k s .live (by decide)
  have mode : (releaseCurrent k s).counterMode = s.counterMode := releaseCurrent_keeps k s .counterMode (by decide)
  rw [told, live, mode]

theorem substituted_rings : (substituted k cause s).rings = (releaseCurrent k s).rings :=
  raiseSubstitute_keeps k s.slots[k].state cause _ .rings (by decide)

theorem substituted_contexts : (substituted k cause s).contexts = (releaseCurrent k s).contexts :=
  raiseSubstitute_keeps k s.slots[k].state cause _ .contexts (by decide)

theorem substituted_routes : (substituted k cause s).routes = s.routes := substituted_keeps k cause s .routes (by decide)

theorem substituted_emissions : (substituted k cause s).emissions = s.emissions :=
  substituted_keeps k cause s .emissions (by decide)

theorem substituted_counterMode : (substituted k cause s).counterMode = s.counterMode :=
  substituted_keeps k cause s .counterMode (by decide)

/-- R100: SLOT_SUBSTITUTE is raised on entry alone. -/
theorem substituted_latches :
    (substituted k cause s).latches =
      if s.slots[k].state = .subst then s.latches else (raise .slotSubstitute k.val cause.code s).latches := by
  have before : (releaseCurrent k s).latches = s.latches := releaseCurrent_keeps k s .latches (by decide)
  unfold substituted raiseSubstitute
  split
  · exact before
  · exact congrArg (fun latches => modifyAt latches (latchNumber .slotSubstitute) (occur k.val cause.code)) before

end

theorem releaseCurrent_rings_contexts {k : Fin 16} {s : State} {c : CurrentFrame} (h : s.slots[k].current = some c) :
    (releaseCurrent k s).rings = (letGo c.buffer s).rings ∧ (releaseCurrent k s).contexts = (letGo c.buffer s).contexts := by
  simp only [releaseCurrent, h]
  exact ⟨rfl, rfl⟩

/-! ## The substitute begun (R101, R103, R114) -/

/-- R101, R114: the record of a substitute depends on the slot's route and its output frame counter alone. -/
theorem substituteRecord_congr {k : Fin 16} {s t : State} (routes : t.routes = s.routes)
    (frame : t.slots[k].outputFrame = s.slots[k].outputFrame) : substituteRecord t k = substituteRecord s k := by
  unfold substituteRecord
  rw [routes, frame]

theorem substituteRecord_substituted (k : Fin 16) (cause : SubstCause) (s : State) :
    substituteRecord (substituted k cause s) k = substituteRecord s k :=
  substituteRecord_congr (substituted_routes k cause s) (by rw [substituted_slot]; rfl)

theorem substituteRecord_blank {k : Fin 16} {s : State} (h : s.routes[k].active.fields.substKind = .blank) :
    substituteRecord s k = none := by
  simp only [substituteRecord, h]

theorem substitute_nothing {k : Fin 16} {cause : SubstCause} {s : State} (h : BeginsNothing k cause s) :
    substitute k cause s = substituted k cause s := by
  show (if cause = .table then substituted k cause s else emitSubstitute k (substituted k cause s)) = _
  split
  · rfl
  · rename_i other
    have none := (substituteRecord_substituted k cause s).trans (substituteRecord_blank (h.resolve_left other))
    simp only [emitSubstitute, none]

theorem substitute_begins {k : Fin 16} {cause : SubstCause} {s : State} {r : EmissionRecord} (other : cause ≠ .table)
    (record : substituteRecord s k = some r) :
    substitute k cause s = beginEmission k r (substituted k cause s) := by
  have same := (substituteRecord_substituted k cause s).trans record
  show (if cause = .table then substituted k cause s else emitSubstitute k (substituted k cause s)) = _
  rw [if_neg other]
  simp only [emitSubstitute, same]

/-- R111, R114: what the record of every substitute holds. -/
theorem substituteRecord_some {k : Fin 16} {s : State} (h : s.routes[k].active.fields.substKind ≠ .blank) :
    ∃ r, substituteRecord s k = some r ∧ r.status = .active ∧ r.outputFrame = s.slots[k].outputFrame ∧
      r.burstsTotal = s.routes[k].active.fields.fillLength ∧ r.egressPort = s.routes[k].active.fields.egressPort ∧
      r.outputTag = s.routes[k].active.fields.outputTag := by
  cases kind : s.routes[k].active.fields.substKind with
  | fill =>
    simp only [substituteRecord, kind]
    exact ⟨_, rfl, rfl, rfl, rfl, rfl, rfl⟩
  | ramp =>
    simp only [substituteRecord, kind]
    exact ⟨_, rfl, rfl, rfl, rfl, rfl, rfl⟩
  | blank => exact absurd kind h

/-- R100, R101: a tick whose choice is SUBST begins nothing, or begins the substitute's record. -/
theorem substitute_cases (k : Fin 16) (cause : SubstCause) (s : State) :
    (BeginsNothing k cause s ∧ substitute k cause s = substituted k cause s) ∨
      ¬ BeginsNothing k cause s ∧ ∃ r, substitute k cause s = beginEmission k r (substituted k cause s) := by
  by_cases nothing : BeginsNothing k cause s
  · exact .inl ⟨nothing, substitute_nothing nothing⟩
  · obtain ⟨r, record, _⟩ := substituteRecord_some fun blank => nothing (.inr blank)
    exact .inr ⟨nothing, r, substitute_begins (fun table => nothing (.inl table)) record⟩

/-- R103: the output frame counter advances, and EMITTED counts. -/
theorem beginEmission_slots (k : Fin 16) (r : EmissionRecord) (s : State) :
    (beginEmission k r s).slots = modifyAt s.slots k fun c => { c with outputFrame := c.outputFrame + 1#16 } := rfl

theorem beginEmission_live (k : Fin 16) (r : EmissionRecord) (s : State) :
    (beginEmission k r s).live =
      { s.live with slots := modifyAt s.live.slots k (bumpSlot s.counterMode .emitted 1) } := rfl

/-! ## The whole tick -/

section
variable (k : Fin 16) (cause : SubstCause) (s : State)

theorem substitute_slots [Decidable (BeginsNothing k cause s)] :
    (substitute k cause s).slots =
      s.slots.set k
        { s.slots[k] with
          state := .subst, current := none, holdTimer := 0, cause := some cause
          outputFrame := if BeginsNothing k cause s then s.slots[k].outputFrame else s.slots[k].outputFrame + 1#16 } := by
  rcases substitute_cases k cause s with ⟨nothing, same⟩ | ⟨something, r, begins⟩
  · rw [same, if_pos nothing, substituted_slots]
    rfl
  · rw [begins, if_neg something, beginEmission_slots, substituted_slots, modifyAt_modifyAt]
    rfl

theorem substitute_live [Decidable (BeginsNothing k cause s)] :
    (substitute k cause s).live =
      { s.live with
        slots := s.live.slots.set k
          { s.live.slots[k] with
            substitutes := bump s.counterMode s.live.slots[k].substitutes 1
            emitted :=
              if BeginsNothing k cause s then s.live.slots[k].emitted
              else bump s.counterMode s.live.slots[k].emitted 1 } } := by
  rcases substitute_cases k cause s with ⟨nothing, same⟩ | ⟨something, r, begins⟩
  · rw [same, if_pos nothing, substituted_live]
    rfl
  · rw [begins, if_neg something, beginEmission_live, substituted_live, substituted_counterMode]
    exact congrArg (fun slots => { s.live with slots := slots }) (modifyAt_modifyAt s.live.slots k _ _)

theorem substitute_keeps_substituted :
    Keeps [.live, .slots, .emissions] (substituted k cause s) (substitute k cause s) := by
  rcases substitute_cases k cause s with ⟨_, same⟩ | ⟨_, r, begins⟩
  · rw [same]
    exact Keeps.refl _ _
  · rw [begins]
    exact beginEmission_keeps k r _

theorem substitute_rings : (substitute k cause s).rings = (releaseCurrent k s).rings :=
  (substitute_keeps_substituted k cause s .rings (by decide)).trans (substituted_rings k cause s)

theorem substitute_contexts : (substitute k cause s).contexts = (releaseCurrent k s).contexts :=
  (substitute_keeps_substituted k cause s .contexts (by decide)).trans (substituted_contexts k cause s)

theorem substitute_latches :
    (substitute k cause s).latches =
      if s.slots[k].state = .subst then s.latches else (raise .slotSubstitute k.val cause.code s).latches :=
  (substitute_keeps_substituted k cause s .latches (by decide)).trans (substituted_latches k cause s)

end

/-- R114, R118: the emission begun, with its first blocks. -/
theorem substitute_emissions {k : Fin 16} {cause : SubstCause} {s : State} {r : EmissionRecord} (other : cause ≠ .table)
    (record : substituteRecord s k = some r) :
    (substitute k cause s).emissions = s.emissions.set k (refill { s.emissions[k] with record := r }) := by
  have begun : (substitute k cause s).emissions =
      modifyAt (substituted k cause s).emissions k fun u => refill { u with record := r } := by
    rw [substitute_begins other record]
    rfl
  rw [begun, substituted_emissions]
  rfl

/-- R101, R111, R114: the fields of the emission begun that every substitute has. -/
theorem substitute_emission_record {k : Fin 16} {cause : SubstCause} {s : State} (other : cause ≠ .table)
    (kind : s.routes[k].active.fields.substKind ≠ .blank) :
    (substitute k cause s).emissions[k].record.status = .active ∧
      (substitute k cause s).emissions[k].record.outputFrame = s.slots[k].outputFrame ∧
      (substitute k cause s).emissions[k].record.burstsTotal = s.routes[k].active.fields.fillLength ∧
      (substitute k cause s).emissions[k].record.egressPort = s.routes[k].active.fields.egressPort ∧
      (substitute k cause s).emissions[k].record.outputTag = s.routes[k].active.fields.outputTag := by
  obtain ⟨r, record, status, frame, total, port, tag⟩ := substituteRecord_some kind
  have unit : (substitute k cause s).emissions[k] = refill { s.emissions[k] with record := r } := by
    rw [substitute_emissions other record]
    exact modifyAt_same s.emissions k fun u => refill { u with record := r }
  obtain ⟨m, placed⟩ := refill_record { s.emissions[k] with record := r }
  rw [unit, placed]
  exact ⟨status, frame, total, port, tag⟩

/-! ## HOLD_EXPIRED (R98) -/

theorem exec_holdExpired {k : Fin 16} {s : State} (running : s.resetHeld = none) (due : s.slots[k].holdExpiryDue = true) :
    exec (.holdExpired k) s = .next
      (substitute k .holdExpired { s with slots := s.slots.set k { s.slots[k] with holdExpiryDue := false } }) :=
  congrArg Host.Outcome.next ((whileRunning_running running _).trans (if_pos due))

/-- Settles O33: HOLD_EXPIRED, the tick field by field, the record by the kind of substitute, and the blocks. -/
theorem substituteTick : Obligations.SubstituteTick := by
  refine ⟨fun k s => ⟨exec_holdExpired, fun _ idle => ?_, fun cause => ?_⟩, fun k cause s other => ⟨?_, ?_, ?_⟩,
    fun _ => rfl, fun _ => rfl, fun u status kind => ?_, fun u status kind => ?_, fun u => refill_of_idle⟩
  · exact congrArg Host.Outcome.next (whileRunning_unchanged (expireHold_idle idle))
  · have latches := substitute_latches k cause s
    refine ⟨@substitute_slots k cause s instDecidableOr, @substitute_live k cause s instDecidableOr, fun none => ?_,
      fun c held => ?_, substitute_keeps k cause s, fun subst => ?_, fun entry => ?_, fun nothing => ?_,
      substitute_emission_record⟩
    · rw [substitute_rings, substitute_contexts, releaseCurrent_of_none none]
      exact ⟨rfl, rfl⟩
    · rw [substitute_rings, substitute_contexts]
      exact releaseCurrent_rings_contexts held
    · rw [latches, if_pos subst]
    · rw [latches, if_neg entry]
    · rw [substitute_nothing nothing, substituted_emissions]
  · intro kind
    exact substitute_emissions other (by simp only [substituteRecord, kind])
  · intro kind
    exact substitute_emissions other (by simp only [substituteRecord, kind])
  · intro kind
    classical
    have something : ¬ BeginsNothing k cause s := fun nothing => nothing.elim other kind
    rw [substitute_live, if_neg something]
    simp
  · rw [refill_of_active ((substituteActive_iff _).mpr ⟨status, .inl kind⟩)]
    simp only [substituteBlock, substituteWords_fill kind]
  · rw [refill_of_active ((substituteActive_iff _).mpr ⟨status, .inr kind⟩)]
    simp only [substituteBlock, substituteWords_ramp kind]

end Sys2Proof.Machine
end

section
/-! PROOFS. The choice of a slot at a tick (R90 to R98), and what going to OFF leaves (R91). -/

namespace Sys2Proof.Machine

/-! ## What decides before the stream (R88 to R91) -/

theorem choose_failed (k : Fin 16) (s : State) : choose k true s = substitute k .table s := by
  simp only [choose, if_true]

theorem choose_disabled {k : Fin 16} {s : State} (off : s.routes[k].active.fields.enabled = false) :
    choose k false s = goOff k s := by
  simp only [choose, off, Bool.false_eq_true, if_false]

theorem choose_safe {k : Fin 16} {s : State} (enabled : s.routes[k].active.fields.enabled = true)
    (safe : s.faults.mode = .safe) : choose k false s = substitute k .safe s := by
  simp only [choose, enabled, safe, Bool.false_eq_true, if_false, if_true]

/-! ## The state of the routed stream (R90) -/

section
variable {k : Fin 16} {s : State} (enabled : s.routes[k].active.fields.enabled = true) (normal : s.faults.mode = .normal)
include enabled normal

theorem choose_streamOff
    (out : s.contexts[s.routes[k].active.fields.stream].state = .off ∨
      s.contexts[s.routes[k].active.fields.stream].state = .closing) : choose k false s = substitute k .streamOff s := by
  rcases out with off | closing
  · simp only [choose, enabled, normal, off, Bool.false_eq_true, reduceCtorEq, if_true, if_false]
  · simp only [choose, enabled, normal, closing, Bool.false_eq_true, reduceCtorEq, if_true, if_false]

theorem choose_locked (locked : s.contexts[s.routes[k].active.fields.stream].state = .locked) :
    choose k false s = chooseLocked k s.routes[k].active.fields.stream s := by
  simp only [choose, enabled, normal, locked, Bool.false_eq_true, reduceCtorEq, if_true, if_false]

theorem choose_unlocked
    (out : s.contexts[s.routes[k].active.fields.stream].state = .acquiring ∨
      s.contexts[s.routes[k].active.fields.stream].state = .lost) : choose k false s = chooseUnlocked k s := by
  rcases out with acquiring | lost
  · simp only [choose, enabled, normal, acquiring, Bool.false_eq_true, reduceCtorEq, if_true, if_false]
  · simp only [choose, enabled, normal, lost, Bool.false_eq_true, reduceCtorEq, if_true, if_false]

end

/-! ## A LOCKED stream (R94, R96, R97) -/

section
variable {k : Fin 16} {n : Fin 32} {s : State}

theorem chooseLocked_takes {i : Fin 8} (newest : newestEligible s n s.routes[k].active.fields.delay = some i)
    (takes : takesNew s.slots[k].current n ((bufferOf s ⟨n, i⟩).sequence.getD 0) = true) :
    chooseLocked k n s = takeNew k ⟨n, i⟩ s := by
  simp only [chooseLocked, newest, takes, if_true]

/-- R94: no eligible buffer is to be taken as a new frame. -/
def NothingNew (k : Fin 16) (n : Fin 32) (s : State) : Prop :=
  ∀ i, newestEligible s n s.routes[k].active.fields.delay = some i →
    takesNew s.slots[k].current n ((bufferOf s ⟨n, i⟩).sequence.getD 0) = false

theorem chooseLocked_empty (nothing : NothingNew k n s) (empty : s.slots[k].current = none) :
    chooseLocked k n s = substitute k .noFrame s := by
  cases newest : newestEligible s n s.routes[k].active.fields.delay with
  | none => simp only [chooseLocked, newest, empty]
  | some i =>
    have old := nothing i newest
    rw [empty] at old
    simp only [chooseLocked, newest, old, empty, Bool.false_eq_true, if_false]

theorem chooseLocked_current {c : CurrentFrame} (nothing : NothingNew k n s) (held : s.slots[k].current = some c) :
    chooseLocked k n s =
      if (bufferOf s c.buffer).mediaError then substitute k .noFrame s else repeatFrame k .run 0 c.buffer s := by
  cases newest : newestEligible s n s.routes[k].active.fields.delay with
  | none => simp only [chooseLocked, newest, held]
  | some i =>
    have old := nothing i newest
    rw [held] at old
    simp only [chooseLocked, newest, old, held, Bool.false_eq_true, if_false]

end

/-! ## A stream ACQUIRING or LOST (R98) -/

section
variable {k : Fin 16} {s : State}

theorem chooseUnlocked_empty (empty : s.slots[k].current = none) : chooseUnlocked k s = substitute k .noFrame s := by
  simp only [chooseUnlocked, empty]

variable {c : CurrentFrame} (held : s.slots[k].current = some c)
include held

/-- R98: the hold begins. -/
theorem chooseUnlocked_begins (entry : s.slots[k].state ≠ .holding) :
    chooseUnlocked k s =
      if s.routes[k].active.fields.holdLimit = 0 then substitute k .holdExpired s
      else if (bufferOf s c.buffer).mediaError then substitute k .noFrame s
      else repeatFrame k .holding s.routes[k].active.fields.holdLimit c.buffer s := by
  simp only [chooseUnlocked, held, if_neg entry]

/-- R98: the hold goes on, or its timer has run out. -/
theorem chooseUnlocked_holding (holding : s.slots[k].state = .holding) :
    chooseUnlocked k s =
      if s.slots[k].holdTimer = 0 then modifySlot k (fun t => { t with holdExpiryDue := true }) s
      else if (bufferOf s c.buffer).mediaError then substitute k .noFrame s
      else repeatFrame k .holding s.slots[k].holdTimer c.buffer s := by
  simp only [chooseUnlocked, held, if_pos holding]

end

/-! ## Going to OFF (R91) -/

theorem goOff_slots (k : Fin 16) (s : State) :
    (goOff k s).slots = s.slots.set k { s.slots[k] with state := .off, current := none, holdTimer := 0, cause := none } := by
  have left : (releaseCurrent k s).slots = modifyAt s.slots k fun c => { c with current := none } :=
    releaseCurrent_slots k s
  have told : (goOff k s).slots =
      modifyAt (releaseCurrent k s).slots k fun c => { c with state := .off, holdTimer := 0, cause := none } := rfl
  rw [told, left, modifyAt_modifyAt]

theorem goOff_keeps_released (k : Fin 16) (s : State) : Keeps [.slots] (releaseCurrent k s) (goOff k s) :=
  modifySlot_keeps _ k _

theorem goOff_keeps_of_none {k : Fin 16} {s : State} (empty : s.slots[k].current = none) :
    Keeps [.slots] s (goOff k s) := by
  have released := goOff_keeps_released k s
  rwa [releaseCurrent_of_none empty] at released

theorem goOff_rings_contexts {k : Fin 16} {s : State} {c : CurrentFrame} (held : s.slots[k].current = some c) :
    (goOff k s).rings = (letGo c.buffer s).rings ∧ (goOff k s).contexts = (letGo c.buffer s).contexts :=
  releaseCurrent_rings_contexts (k := k) held

/-! ## The statement -/

/-- Settles O34: the choice by what decides it, in the order of R90, and what going to OFF leaves. -/
theorem slotChoice : Obligations.SlotChoice := by
  refine ⟨fun k s => ⟨choose_failed k s, choose_disabled, choose_safe, fun enabled normal n stream => ?_⟩,
    fun k s => ⟨goOff_slots k s, goOff_keeps_of_none, fun c held => ?_⟩⟩
  · subst stream
    refine ⟨choose_streamOff enabled normal, fun locked => ?_, fun out => ?_⟩
    · rw [choose_locked enabled normal locked]
      refine ⟨fun i => chooseLocked_takes, fun nothing => ⟨chooseLocked_empty nothing, fun c held => ?_⟩⟩
      rw [chooseLocked_current nothing held]
      refine ⟨fun marked => if_pos marked, fun good => ?_⟩
      rw [good]
      rfl
    · rw [choose_unlocked enabled normal out]
      refine ⟨chooseUnlocked_empty, fun c held => ⟨fun entry none => ?_, fun entry limit good => ?_,
        fun entry limit marked => ?_, fun holding runs good => ?_, fun holding runs marked => ?_, fun holding out => ?_⟩⟩
      · rw [chooseUnlocked_begins held entry, if_pos none]
      · rw [chooseUnlocked_begins held entry, if_neg limit.ne', good]
        rfl
      · rw [chooseUnlocked_begins held entry, if_neg limit.ne', if_pos marked]
      · rw [chooseUnlocked_holding held holding, if_neg runs.ne', good]
        rfl
      · rw [chooseUnlocked_holding held holding, if_neg runs.ne', if_pos marked]
      · rw [chooseUnlocked_holding held holding, if_pos out]
        rfl
  · obtain ⟨rings, contexts⟩ := goOff_rings_contexts held
    exact ⟨rings, contexts, goOff_keeps k s⟩

end Sys2Proof.Machine
end

section
/-! PROOFS. The newest eligible buffer (R93), what a new frame and a repeat leave (R94 to R96, R103), the record of the FRAME emission
begun (R111, R114), and the let-go of a buffer (R58, R78, R52). -/

namespace Sys2Proof.Machine

/-! ## Eligibility, and the newest eligible buffer (R93) -/

theorem eligible_iff (tick : BitVec 32) (delay : Nat) (b : Buffer) :
    eligible tick delay b = true ↔
      (b.state = .ready ∨ b.state = .shown) ∧ b.mediaError = false ∧ delay < (tick - b.stamp.getD 0).toNat := by
  simp only [eligible, Bool.and_eq_true, Bool.not_eq_true', decide_eq_true_eq, Buffer.complete_iff, and_assoc]

/-- R93: a buffer of the ring is eligible at the tick in hand. -/
def Eligible (s : State) (n : Fin 32) (delay : Nat) (j : Fin 8) : Prop :=
  eligible s.reference.tickNumber delay (bufferOf s ⟨n, j⟩) = true

/-- R93: the search among the indexes given. -/
def newestOf (s : State) (n : Fin 32) (delay : Nat) (is : List (Fin 8)) : Option (Fin 8) :=
  is.foldl
    (fun best i =>
      if eligible s.reference.tickNumber delay (bufferOf s ⟨n, i⟩) then
        match best with
        | none => some i
        | some j => if bufferAge s n i < bufferAge s n j then some i else some j
      else best)
    none

theorem newestEligible_eq (s : State) (n : Fin 32) (delay : Nat) :
    newestEligible s n delay = newestOf s n delay (ringIndexes s.entries[n].fields) := rfl

/-- R93: how one more index changes the choice. -/
theorem newestOf_concat (s : State) (n : Fin 32) (delay : Nat) (is : List (Fin 8)) (j : Fin 8) :
    newestOf s n delay (is ++ [j]) =
      if eligible s.reference.tickNumber delay (bufferOf s ⟨n, j⟩) then
        match newestOf s n delay is with
        | none => some j
        | some i => if bufferAge s n j < bufferAge s n i then some j else some i
      else newestOf s n delay is := by
  unfold newestOf
  rw [List.foldl_append]
  rfl

/-- R93: the choice among the indexes given is an eligible buffer of the least age, or none where none is eligible. -/
def NewestOf (s : State) (n : Fin 32) (delay : Nat) (is : List (Fin 8)) (best : Option (Fin 8)) : Prop :=
  (best = none → ∀ j ∈ is, ¬ Eligible s n delay j) ∧
    ∀ i, best = some i → i ∈ is ∧ Eligible s n delay i ∧ ∀ j ∈ is, Eligible s n delay j → bufferAge s n i ≤ bufferAge s n j

section
variable {s : State} {n : Fin 32} {delay : Nat} {is : List (Fin 8)} {i j : Fin 8} {best : Option (Fin 8)}

theorem NewestOf.concat_ineligible (h : NewestOf s n delay is best) (not : ¬ Eligible s n delay j) :
    NewestOf s n delay (is ++ [j]) best := by
  obtain ⟨absent, present⟩ := h
  refine ⟨fun noneFound k hk held => ?_, fun i chosen => ?_⟩
  · rcases List.mem_append.mp hk with earlier | last
    · exact absent noneFound k earlier held
    · exact not (List.mem_singleton.mp last ▸ held)
  · obtain ⟨mem, held, newest⟩ := present i chosen
    refine ⟨List.mem_append_left _ mem, held, fun k hk other => ?_⟩
    rcases List.mem_append.mp hk with earlier | last
    · exact newest k earlier other
    · exact absurd (List.mem_singleton.mp last ▸ other) not

/-- The last index is taken where it is newer than every eligible one before it. -/
theorem NewestOf.concat_newer (held : Eligible s n delay j)
    (newer : ∀ k ∈ is, Eligible s n delay k → bufferAge s n j ≤ bufferAge s n k) :
    NewestOf s n delay (is ++ [j]) (some j) := by
  refine ⟨nofun, fun i chosen => ?_⟩
  obtain rfl : j = i := Option.some.inj chosen
  refine ⟨by simp, held, fun k hk other => ?_⟩
  rcases List.mem_append.mp hk with earlier | last
  · exact newer k earlier other
  · rw [List.mem_singleton.mp last]

theorem NewestOf.concat_older (h : NewestOf s n delay is (some i)) (older : bufferAge s n i ≤ bufferAge s n j) :
    NewestOf s n delay (is ++ [j]) (some i) := by
  obtain ⟨mem, held, newest⟩ := h.2 i rfl
  refine ⟨nofun, fun k chosen => ?_⟩
  obtain rfl : i = k := Option.some.inj chosen
  refine ⟨List.mem_append_left _ mem, held, fun k hk other => ?_⟩
  rcases List.mem_append.mp hk with earlier | last
  · exact newest k earlier other
  · rwa [List.mem_singleton.mp last]

end

/-- R93: the search of the ring finds the newest. -/
theorem newestOf_newest (s : State) (n : Fin 32) (delay : Nat) (is : List (Fin 8)) :
    NewestOf s n delay is (newestOf s n delay is) := by
  induction is using List.reverseRecOn with
  | nil => exact ⟨fun _ _ h => by simp at h, fun _ h => by cases h⟩
  | append_singleton is j ih =>
    rw [newestOf_concat]
    split
    · rename_i held
      split
      · rename_i noneFound
        exact .concat_newer held fun k earlier other => absurd other (ih.1 noneFound k earlier)
      · rename_i i found
        rw [found] at ih
        split
        · rename_i newer
          obtain ⟨_, _, newest⟩ := ih.2 i rfl
          exact .concat_newer held fun k earlier other => newer.le.trans (newest k earlier other)
        · rename_i older
          exact ih.concat_older (Nat.not_lt.mp older)
    · rename_i not
      exact ih.concat_ineligible not

theorem newestEligible_newest (s : State) (n : Fin 32) (delay : Nat) :
    NewestOf s n delay (ringIndexes s.entries[n].fields) (newestEligible s n delay) :=
  newestOf_newest s n delay _

theorem newestEligible_some {s : State} {n : Fin 32} {delay : Nat} {i : Fin 8} (h : newestEligible s n delay = some i) :
    i.val < s.entries[n].fields.ringLength ∧ Eligible s n delay i ∧
      ∀ j : Fin 8, j.val < s.entries[n].fields.ringLength → Eligible s n delay j → bufferAge s n i ≤ bufferAge s n j := by
  obtain ⟨mem, held, newest⟩ := (newestEligible_newest s n delay).2 i h
  exact ⟨(mem_ringIndexes _ i).mp mem, held, fun j inRing => newest j ((mem_ringIndexes _ j).mpr inRing)⟩

theorem newestEligible_eq_none_iff (s : State) (n : Fin 32) (delay : Nat) :
    newestEligible s n delay = none ↔
      ∀ j : Fin 8, j.val < s.entries[n].fields.ringLength →
        eligible s.reference.tickNumber delay s.rings[n][j] = false := by
  refine ⟨fun noneFound j inRing => ?_, fun noneEligible => ?_⟩
  · exact Bool.not_eq_true _ ▸ (newestEligible_newest s n delay).1 noneFound j ((mem_ringIndexes _ j).mpr inRing)
  · rw [Option.eq_none_iff_forall_ne_some]
    intro i chosen
    obtain ⟨inRing, held, _⟩ := newestEligible_some chosen
    exact Bool.false_ne_true ((noneEligible i inRing).symm.trans held)

/-! ## New, or passed over (R94, R95) -/

theorem newer_iff (a b : BitVec 32) : newer a b = true ↔ 1 ≤ (a - b).toNat ∧ (a - b).toNat < 2 ^ 31 := by
  simp only [newer, Bool.and_eq_true, decide_eq_true_eq]

theorem takesNew_some_iff (c : CurrentFrame) (n : Fin 32) (sequence : BitVec 32) :
    takesNew (some c) n sequence = true ↔
      c.buffer.stream ≠ n ∨ (1 ≤ (sequence - c.sequence).toNat ∧ (sequence - c.sequence).toNat < 2 ^ 31) := by
  simp only [takesNew, Bool.or_eq_true, bne_iff_ne, newer_iff]

/-! ## The FRAME emission begun (R103, R111, R114) -/

theorem refill_frame {u : EmissionUnit} (frame : u.record.sourceKind = some .frame) : refill u = u :=
  refill_of_idle (.inr (by rw [frame]; exact ⟨nofun, nofun⟩))

theorem emitFrame_emissions (k : Fin 16) (b : BufferName) (isRepeat : Bool) (s : State) :
    (emitFrame k b isRepeat s).emissions =
      s.emissions.set k { s.emissions[k] with record := frameRecord s k b isRepeat } := by
  have begun : (emitFrame k b isRepeat s).emissions =
      s.emissions.set k (refill { s.emissions[k] with record := frameRecord s k b isRepeat }) := rfl
  rw [begun, refill_frame rfl]

/-- R114: the record of a FRAME emission depends on the buffer, the stream's entry, the route and the output frame counter alone. -/
theorem frameRecord_congr {k : Fin 16} {b : BufferName} {s t : State} (isRepeat : Bool)
    (tag : (bufferOf t b).fillTag = (bufferOf s b).fillTag) (words : (bufferOf t b).lastWords = (bufferOf s b).lastWords)
    (count : (bufferOf t b).burstCount = (bufferOf s b).burstCount) (entries : t.entries = s.entries)
    (frame : t.slots[k].outputFrame = s.slots[k].outputFrame) (routes : t.routes = s.routes) :
    frameRecord t k b isRepeat = frameRecord s k b isRepeat := by
  simp only [frameRecord, fieldsOf, tag, words, count, entries, frame, routes]

/-! ## A repeat (R96, R98) -/

section
variable (k : Fin 16) (st : SlotState) (timer : Nat) (b : BufferName) (s : State)

theorem repeatFrame_slots :
    (repeatFrame k st timer b s).slots =
      s.slots.set k
        { s.slots[k] with state := st, holdTimer := timer, outputFrame := s.slots[k].outputFrame + 1#16 } :=
  modifyAt_modifyAt s.slots k (fun c => { c with state := st, holdTimer := timer })
    fun c => { c with outputFrame := c.outputFrame + 1#16 }

theorem repeatFrame_live :
    (repeatFrame k st timer b s).live =
      { s.live with
        slots := s.live.slots.set k
          { s.live.slots[k] with
            repeats := bump s.counterMode s.live.slots[k].repeats 1
            emitted := bump s.counterMode s.live.slots[k].emitted 1 } } :=
  congrArg (fun slots => { s.live with slots := slots })
    (modifyAt_modifyAt s.live.slots k (bumpSlot s.counterMode .repeats 1) (bumpSlot s.counterMode .emitted 1))

/-- R114: the record of a repeat is that of its buffer, marked a repeat. -/
theorem repeatFrame_emissions :
    (repeatFrame k st timer b s).emissions =
      s.emissions.set k { s.emissions[k] with record := frameRecord s k b true } := by
  have frame : (modifyAt s.slots k fun c => { c with state := st, holdTimer := timer })[k].outputFrame =
      s.slots[k].outputFrame := by
    rw [modifyAt_same]
  have record : frameRecord (countSlot k .repeats 1 (modifySlot k (fun c => { c with state := st, holdTimer := timer }) s))
      k b true = frameRecord s k b true := frameRecord_congr true rfl rfl rfl rfl frame rfl
  rw [repeatFrame, emitFrame_emissions, record]
  rfl

theorem repeatFrame_record : (repeatFrame k st timer b s).emissions[k].record = frameRecord s k b true := by
  rw [repeatFrame_emissions]
  exact congrArg EmissionUnit.record (modifyAt_same s.emissions k fun u => { u with record := frameRecord s k b true })

end

/-! ## A new frame (R94, R95, R58) -/

/-- R94: the slot's context once the frame in buffer `b` is current. -/
def SlotContext.showing (b : BufferName) (sequence : BitVec 32) (c : SlotContext) : SlotContext :=
  { c with state := .run, current := some { buffer := b, sequence := sequence }, holdTimer := 0, cause := none }

/-- R58: a buffer record once a slot more holds it. -/
def heldOnce (r : Buffer) : Buffer :=
  { r with holdCount := r.holdCount + 1, state := if r.state = .ready then .shown else r.state }

theorem takeHold_rings (b : BufferName) (s : State) :
    (takeHold b s).rings = s.rings.set b.stream (s.rings[b.stream].set b.ring (heldOnce (bufferOf s b))) := rfl

theorem bufferOf_takeHold (b c : BufferName) (s : State) :
    bufferOf (takeHold b s) c = if b = c then heldOnce (bufferOf s b) else bufferOf s c :=
  bufferOf_modifyBuffer b c heldOnce s

/-- R94: the part with the new frame current and the skips counted, before its emission is begun. -/
def frameTaken (k : Fin 16) (b : BufferName) (s : State) : State :=
  countSlot k .skips (skipsOf s.slots[k].current b.stream ((bufferOf s b).sequence.getD 0))
    (modifySlot k (SlotContext.showing b ((bufferOf s b).sequence.getD 0)) (takeHold b (releaseCurrent k s)))

section
variable (k : Fin 16) (b : BufferName) (s : State)

theorem takeNew_eq : takeNew k b s = emitFrame k b false (frameTaken k b s) := rfl

theorem frameTaken_slots :
    (frameTaken k b s).slots = modifyAt s.slots k (SlotContext.showing b ((bufferOf s b).sequence.getD 0)) := by
  have left : (releaseCurrent k s).slots = modifyAt s.slots k fun c => { c with current := none } :=
    releaseCurrent_slots k s
  have taken : (frameTaken k b s).slots =
      modifyAt (releaseCurrent k s).slots k (SlotContext.showing b ((bufferOf s b).sequence.getD 0)) := rfl
  rw [taken, left, modifyAt_modifyAt]
  rfl

theorem frameTaken_live :
    (frameTaken k b s).live =
      { s.live with
        slots := modifyAt s.live.slots k
          (bumpSlot s.counterMode .skips (skipsOf s.slots[k].current b.stream ((bufferOf s b).sequence.getD 0))) } := by
  have live : (releaseCurrent k s).live = s.live := releaseCurrent_keeps k s .live (by decide)
  have mode : (releaseCurrent k s).counterMode = s.counterMode := releaseCurrent_keeps k s .counterMode (by decide)
  rw [← live, ← mode]
  rfl

theorem frameTaken_keeps : Keeps [.slots, .rings, .contexts, .live] s (frameTaken k b s) :=
  (((releaseCurrent_keeps k s).seq (takeHold_keeps b _) (both := [.slots, .rings, .contexts]) (by decide)).seq
    (modifySlot_keeps _ k _) (both := [.slots, .rings, .contexts]) (by decide)).seq (countSlot_keeps _ k _ .skips) (by decide)

theorem takeNew_slots :
    (takeNew k b s).slots =
      s.slots.set k
        { s.slots[k] with
          state := .run, current := some { buffer := b, sequence := (bufferOf s b).sequence.getD 0 }, holdTimer := 0,
          cause := none, outputFrame := s.slots[k].outputFrame + 1#16 } := by
  rw [takeNew_eq, emitFrame, beginEmission_slots, frameTaken_slots, modifyAt_modifyAt]
  rfl

theorem takeNew_live :
    (takeNew k b s).live =
      { s.live with
        slots := s.live.slots.set k
          { s.live.slots[k] with
            emitted := bump s.counterMode s.live.slots[k].emitted 1
            skips := bump s.counterMode s.live.slots[k].skips
              (skipsOf s.slots[k].current b.stream ((bufferOf s b).sequence.getD 0)) } } := by
  have mode : (frameTaken k b s).counterMode = s.counterMode := frameTaken_keeps k b s .counterMode (by decide)
  rw [takeNew_eq, emitFrame, beginEmission_live, frameTaken_live, mode]
  exact congrArg (fun slots => { s.live with slots := slots }) (modifyAt_modifyAt s.live.slots k _ _)

theorem takeNew_keeps_held : Keeps [.live, .slots, .emissions] (takeHold b (releaseCurrent k s)) (takeNew k b s) :=
  ((modifySlot_keeps _ k _).seq (countSlot_keeps _ k _ .skips) (both := [.live, .slots]) (by decide)).seq
    (emitFrame_keeps k b false (frameTaken k b s)) (by decide)

theorem takeNew_contexts : (takeNew k b s).contexts = (releaseCurrent k s).contexts :=
  (takeNew_keeps_held k b s .contexts (by decide)).trans (takeHold_keeps b _ .contexts (by decide))

/-- R58: the hold on the new buffer is taken once the old one is let go. -/
theorem takeNew_rings :
    (takeNew k b s).rings =
      (releaseCurrent k s).rings.set b.stream
        ((releaseCurrent k s).rings[b.stream].set b.ring (heldOnce (bufferOf (releaseCurrent k s) b))) :=
  (takeNew_keeps_held k b s .rings (by decide)).trans (takeHold_rings b _)

theorem bufferOf_takeNew (c : BufferName) :
    bufferOf (takeNew k b s) c =
      if b = c then heldOnce (bufferOf (releaseCurrent k s) b) else bufferOf (releaseCurrent k s) c := by
  have rings : (takeNew k b s).rings = (takeHold b (releaseCurrent k s)).rings :=
    takeNew_keeps_held k b s .rings (by decide)
  rw [bufferOf, rings]
  exact bufferOf_takeHold b c (releaseCurrent k s)

end

/-- R78: outside CLOSING a let-go changes hold counts alone. -/
theorem bufferOf_releaseCurrent_open {k : Fin 16} {b : BufferName} {s : State}
    (opened : s.contexts[b.stream].state ≠ .closing) :
    ∃ holds, bufferOf (releaseCurrent k s) b = { bufferOf s b with holdCount := holds } := by
  cases current : s.slots[k].current with
  | none => exact ⟨_, by rw [releaseCurrent_of_none current]⟩
  | some c =>
    rw [bufferOf_releaseCurrent current]
    by_cases same : c.buffer = b
    · subst same
      rw [letGo_open _ _ (.inl opened), bufferOf_modifyBuffer_same]
      exact ⟨_, rfl⟩
    · rw [letGo_other _ _ _ same]
      exact ⟨_, rfl⟩

theorem frameRecord_frameTaken {k : Fin 16} {b : BufferName} {s : State}
    (opened : s.contexts[b.stream].state ≠ .closing) :
    frameRecord (frameTaken k b s) k b false = frameRecord s k b false := by
  obtain ⟨holds, released⟩ := bufferOf_releaseCurrent_open (k := k) opened
  have taken : bufferOf (frameTaken k b s) b = heldOnce { bufferOf s b with holdCount := holds } := by
    rw [← released]
    exact bufferOf_modifyBuffer_same b heldOnce _
  refine frameRecord_congr false (by rw [taken]; rfl) (by rw [taken]; rfl) (by rw [taken]; rfl)
    (frameTaken_keeps k b s .entries (by decide)) ?_ (frameTaken_keeps k b s .routes (by decide))
  rw [frameTaken_slots, modifyAt_same]
  rfl

/-- R111, R114: the emission begun by a new frame of a stream that is not CLOSING. -/
theorem takeNew_emissions {k : Fin 16} {b : BufferName} {s : State} (opened : s.contexts[b.stream].state ≠ .closing) :
    (takeNew k b s).emissions = s.emissions.set k { s.emissions[k] with record := frameRecord s k b false } := by
  have kept : (frameTaken k b s).emissions = s.emissions := frameTaken_keeps k b s .emissions (by decide)
  rw [takeNew_eq, emitFrame_emissions, frameRecord_frameTaken opened, kept]

/-- R58: the holds move from the old buffer to another one. -/
theorem takeNew_moves_hold {k : Fin 16} {b : BufferName} {s : State} {c : CurrentFrame}
    (current : s.slots[k].current = some c) (other : c.buffer ≠ b) :
    bufferOf (takeNew k b s) b = heldOnce (bufferOf s b) ∧
      bufferOf (takeNew k b s) c.buffer = bufferOf (letGo c.buffer s) c.buffer ∧
      (bufferOf (takeNew k b s) c.buffer).holdCount = (bufferOf s c.buffer).holdCount - 1 := by
  have old : bufferOf (takeNew k b s) c.buffer = bufferOf (letGo c.buffer s) c.buffer := by
    rw [bufferOf_takeNew, if_neg (Ne.symm other), bufferOf_releaseCurrent current]
  refine ⟨?_, old, by rw [old, letGo_holdCount]⟩
  rw [bufferOf_takeNew, if_pos rfl, bufferOf_releaseCurrent current, letGo_other _ _ _ other]

/-! ## The let-go of a buffer (R58, R78, R52) -/

/-- R78: the part once the last slot has let go of a buffer in CLOSING, before the stream settles. -/
def lastLetGo (b : BufferName) (s : State) : State := modifyBuffer b (fun r => { emptied r with holdCount := 0 }) s

/-- R52: no buffer of the stream is held once no other one is. -/
theorem lastLetGo_unheld_iff (b : BufferName) (s : State) :
    (∀ i : Fin 8, (lastLetGo b s).rings[b.stream][i].holdCount = 0) ↔
      ∀ i : Fin 8, i ≠ b.ring → s.rings[b.stream][i].holdCount = 0 := by
  have ring : (lastLetGo b s).rings[b.stream] = modifyAt s.rings[b.stream] b.ring fun r => { emptied r with holdCount := 0 } :=
    modifyAt_same s.rings b.stream _
  have count (i : Fin 8) : (lastLetGo b s).rings[b.stream][i].holdCount =
      if i = b.ring then 0 else s.rings[b.stream][i].holdCount := by
    rw [ring, modifyAt_get, apply_ite Buffer.holdCount]
  simp only [count, ite_eq_left_iff, ne_eq]

/-- R78, R52: in CLOSING the last let-go makes the buffer EMPTY, and the stream is OFF once nothing else of it is held or
outstanding. -/
theorem letGo_closing_eq {b : BufferName} {s : State} (closing : s.contexts[b.stream].state = .closing)
    (last : (bufferOf s b).holdCount ≤ 1) :
    letGo b s =
      { s with
        rings := s.rings.set b.stream
          (s.rings[b.stream].set b.ring { emptied (bufferOf s b) with holdCount := 0 })
        contexts := s.contexts.set b.stream
          { s.contexts[b.stream] with
            state :=
              if s.contexts[b.stream].writesOutstanding = 0 ∧
                  (∀ i : Fin 8, i ≠ b.ring → s.rings[b.stream][i].holdCount = 0) then .off
              else .closing } } := by
  have settled : (if s.contexts[b.stream].state = .closing ∧ s.contexts[b.stream].writesOutstanding = 0 ∧
        ∀ i : Fin 8, (lastLetGo b s).rings[b.stream][i].holdCount = 0 then StreamState.off
      else s.contexts[b.stream].state) =
      if s.contexts[b.stream].writesOutstanding = 0 ∧
        ∀ i : Fin 8, i ≠ b.ring → s.rings[b.stream][i].holdCount = 0 then .off
      else .closing := by
    simp only [closing, lastLetGo_unheld_iff, true_and]
  rw [letGo_closing b s closing last, settleClosing_eq, ← settled]
  rfl

/-- Settles O35: the search of the ring, the new frame and the repeat field by field, the records begun, and the let-go. -/
theorem framesShown : Obligations.FramesShown := by
  refine ⟨⟨fun s n delay => ⟨fun i => newestEligible_some, newestEligible_eq_none_iff s n delay,
      eligible_iff s.reference.tickNumber delay⟩, fun k b s => ?_, fun k st timer b s => ?_, fun c n sequence => ?_⟩,
    ⟨fun k b s opened => takeNew_emissions opened, fun k st timer b s => repeatFrame_emissions k st timer b s⟩,
    fun b s => ⟨fun opened => letGo_open b s opened, letGo_closing_eq⟩, settleClosing_eq, fun b => rfl⟩
  · refine ⟨takeNew_slots k b s, takeNew_live k b s, (takeNew_keeps k b s).mono (by decide), fun none => ?_,
      fun c current => ?_⟩
    · rw [takeNew_contexts, takeNew_rings, releaseCurrent_of_none none]
      exact ⟨rfl, rfl⟩
    · obtain ⟨rings, contexts⟩ := releaseCurrent_rings_contexts current
      rw [takeNew_contexts, takeNew_rings, contexts, bufferOf_releaseCurrent current, rings]
      exact ⟨rfl, rfl, takeNew_moves_hold current⟩
  · have record := repeatFrame_record k st timer b s
    refine ⟨repeatFrame_slots k st timer b s, repeatFrame_live k st timer b s, repeatFrame_keeps k st timer b s, ?_, ?_⟩
    · rw [record]
      rfl
    · rw [record]
      rfl
  · exact ⟨rfl, takesNew_some_iff c n sequence, rfl, rfl⟩

end Sys2Proof.Machine
end

section
/-! PROOFS. A slot's work at a tick in its order (R87): the adoption (R88), the late abort (R122 to R124, R126), the parity of the
active entry (R89), and the hold timer. -/

namespace Sys2Proof.Machine

/-! ## Adoption and parity (R88, R89) -/

theorem routeParityFailure_eq (k : Fin 16) (s : State) :
    routeParityFailure k s =
      majorFault .tableParity .routeTable k.val none
        { s with routes := s.routes.set k { active := State.resetRouteEntry, pending := none } } := rfl

theorem adoptionFails_of_none {s : State} {k : Fin 16} (h : s.routes[k].pending = none) : adoptionFails s k = false := by
  simp only [adoptionFails, h]

theorem adoptionFails_of_some {s : State} {k : Fin 16} {e : RouteEntry} (h : s.routes[k].pending = some e) :
    adoptionFails s k = !e.parityGood := by
  simp only [adoptionFails, h]

theorem adoptionFails_iff (s : State) (k : Fin 16) :
    adoptionFails s k = true ↔ ∃ e, s.routes[k].pending = some e ∧ e.parityGood = false := by
  cases pending : s.routes[k].pending with
  | none => simp [adoptionFails_of_none pending]
  | some e => simp [adoptionFails_of_some pending]

theorem activeFails_iff (s : State) (k : Fin 16) :
    activeFails s k = true ↔ s.routes[k].active.fields.enabled = true ∧ s.routes[k].active.parityGood = false := by
  simp only [activeFails, Bool.and_eq_true, Bool.not_eq_true']

theorem activeFails_of_good {s : State} {k : Fin 16} (good : s.routes[k].active.parityGood = true) :
    activeFails s k = false := by
  rw [← Bool.not_eq_true, activeFails_iff, good]
  simp

theorem checkActive_fails {k : Fin 16} {s : State} (h : activeFails s k = true) :
    checkActive k s = routeParityFailure k s := if_pos h

theorem checkActive_passes {k : Fin 16} {s : State} (h : activeFails s k = false) : checkActive k s = s := by
  rw [checkActive, h]
  rfl

theorem adoptPending_none {k : Fin 16} {s : State} (h : s.routes[k].pending = none) : adoptPending k s = s := by
  simp only [adoptPending, h]

theorem adoptPending_bad {k : Fin 16} {s : State} {e : RouteEntry} (h : s.routes[k].pending = some e)
    (bad : e.parityGood = false) : adoptPending k s = routeParityFailure k s := by
  simp only [adoptPending, h, bad, Bool.false_eq_true, if_false]

theorem adoptPending_good {k : Fin 16} {s : State} {e : RouteEntry} (h : s.routes[k].pending = some e)
    (good : e.parityGood = true) : adoptPending k s = adoptEntry k e s := by
  simp only [adoptPending, h, good, if_true]

/-- R88: the entry adopted, and the output frame counter that a slot OFF starts from 0. -/
theorem adoptEntry_eq (k : Fin 16) (e : RouteEntry) (s : State) :
    adoptEntry k e s =
      { s with
        routes := s.routes.set k { active := { fields := e.fields, parityGood := true }, pending := none }
        slots := s.slots.set k
          (if s.slots[k].state = .off ∧ e.fields.enabled = true then { s.slots[k] with outputFrame := 0 }
           else s.slots[k]) } := by
  by_cases starts : s.slots[k].state = .off ∧ e.fields.enabled = true
  · rw [if_pos starts]
    exact if_pos starts
  · rw [if_neg starts, table_set_same]
    exact if_neg starts

/-! ## The late abort (R122 to R124, R126) -/

theorem cutIfLate_idle {k : Fin 16} {s : State} (h : s.emissions[k].record.status ≠ .active) : cutIfLate k s = s := if_neg h

/-- R122: of the FIFO the entries in transmission stay, as the cut emission's. -/
theorem mem_cutEmission_fifo {u : EmissionUnit} {e : BlockEntry} (h : e ∈ (cutEmission u).fifo) :
    e.state ≠ .held ∧ e.owner = .cutEmission := by
  obtain ⟨old, kept, rfl⟩ := List.mem_map.mp h
  obtain ⟨_, sending⟩ := List.mem_filter.mp kept
  exact ⟨bne_iff_ne.mp sending, rfl⟩

/-- R123: an abort record is formed where the port has none. -/
theorem cutEmission_abort_new {u : EmissionUnit} (absent : u.aborts[u.record.egressPort] = none) :
    (cutEmission u).aborts[u.record.egressPort] =
      some { outputTag := u.record.outputTag, outputFrame := u.record.outputFrame, index := u.record.burstsSent } := by
  have formed : (cutEmission u).aborts[u.record.egressPort] = abortAtCut u.record u.aborts[u.record.egressPort] :=
    modifyAt_same _ _ _
  rw [formed, absent]
  rfl

/-- R123: an abort record already present stays. -/
theorem cutEmission_aborts_kept {u : EmissionUnit} {a : AbortRecord} (present : u.aborts[u.record.egressPort] = some a) :
    (cutEmission u).aborts = u.aborts := by
  have same : abortAtCut u.record u.aborts[u.record.egressPort] = u.aborts[u.record.egressPort] := by
    rw [present]
    rfl
  show u.aborts.set u.record.egressPort (abortAtCut u.record u.aborts[u.record.egressPort]) = u.aborts
  rw [same, table_set_same]

theorem cutEmission_abort_other {u : EmissionUnit} {q : Fin 4} (other : q ≠ u.record.egressPort) :
    (cutEmission u).aborts[q] = u.aborts[q] := modifyAt_other _ _ _ _ other

section
variable {k : Fin 16} {s : State} (late : s.emissions[k].record.status = .active)
include late

theorem cutIfLate_late :
    cutIfLate k s = raise .slotLate k.val 0 (countSlot k .late 1 (modifyEmission k cutEmission s)) := if_pos late

theorem cutIfLate_emissions : (cutIfLate k s).emissions = modifyAt s.emissions k cutEmission := by
  rw [cutIfLate_late late]
  rfl

theorem cutIfLate_emission : (cutIfLate k s).emissions[k] = cutEmission s.emissions[k] := by
  rw [cutIfLate_emissions late, modifyAt_same]

theorem cutIfLate_live :
    (cutIfLate k s).live =
      { s.live with
        slots := s.live.slots.set k { s.live.slots[k] with late := bump s.counterMode s.live.slots[k].late 1 } } := by
  rw [cutIfLate_late late]
  rfl

theorem cutIfLate_latches : (cutIfLate k s).latches = (raise .slotLate k.val 0 s).latches := by
  rw [cutIfLate_late late]
  rfl

end

/-! ## The hold timer (R87, R98) -/

theorem countDownHold_eq (k : Fin 16) (s : State) :
    countDownHold k s =
      { s with
        slots := s.slots.set k
          (if s.slots[k].state = .holding then { s.slots[k] with holdTimer := s.slots[k].holdTimer - 1 }
           else s.slots[k]) } := by
  by_cases holding : s.slots[k].state = .holding
  · rw [if_pos holding]
    exact if_pos holding
  · rw [if_neg holding, table_set_same]
    exact if_neg holding

/-! ## The order (R87) -/

theorem slotWork_idle {k : Fin 16} {s : State} (idle : s.slots[k].holdExpiryDue = false) :
    slotWork k s =
      countDownHold k
        (choose k (adoptionFails s k || activeFails (cutIfLate k (adoptPending k s)) k)
          (checkActive k (cutIfLate k (adoptPending k s)))) := by
  unfold slotWork
  rw [expireHold_idle idle]

/-- R87: a slot with nothing pending, good parity and no ACTIVE emission. -/
theorem slotWork_quiet {k : Fin 16} {s : State} (idle : s.slots[k].holdExpiryDue = false)
    (nothing : s.routes[k].pending = none) (good : s.routes[k].active.parityGood = true)
    (ended : s.emissions[k].record.status ≠ .active) : slotWork k s = countDownHold k (choose k false s) := by
  have passes := activeFails_of_good good
  rw [slotWork_idle idle, adoptPending_none nothing, cutIfLate_idle ended, checkActive_passes passes,
    adoptionFails_of_none nothing, passes]
  rfl

theorem substitute_holdExpiryDue (k : Fin 16) (cause : SubstCause) (s : State) :
    (substitute k cause s).slots[k].holdExpiryDue = s.slots[k].holdExpiryDue := by
  classical
  rw [substitute_slots]
  simp

/-- R98: the tick that finishes a hold leaves none to expire, so the slot's work goes on from there. -/
theorem slotWork_expired {k : Fin 16} {s : State} (due : s.slots[k].holdExpiryDue = true) :
    slotWork k s =
      slotWork k
        (substitute k .holdExpired { s with slots := s.slots.set k { s.slots[k] with holdExpiryDue := false } }) := by
  have finished : expireHold k s =
      substitute k .holdExpired (modifySlot k (fun c => { c with holdExpiryDue := false }) s) := if_pos due
  have clear : (expireHold k s).slots[k].holdExpiryDue = false := by
    rw [finished, substitute_holdExpiryDue]
    exact congrArg SlotContext.holdExpiryDue (modifyAt_same s.slots k fun c => { c with holdExpiryDue := false })
  have again : slotWork k s = slotWork k (expireHold k s) := by
    rw [slotWork_idle clear]
    rfl
  rw [again, finished]
  rfl

/-- Settles O36: the order of the work, then what each step does, case by case. -/
theorem slotBeforeChoice : Obligations.SlotBeforeChoice := by
  intro k s
  refine ⟨slotWork_quiet, slotWork_idle, slotWork_expired, adoptionFails_iff s k, activeFails_iff s k,
    fun fails => (checkActive_fails fails).trans (routeParityFailure_eq k s), checkActive_passes, adoptPending_none,
    fun e pending good => ?_, fun e pending bad => (adoptPending_bad pending bad).trans (routeParityFailure_eq k s),
    cutIfLate_idle, fun late => ?_, countDownHold_eq k s⟩
  · rw [adoptPending_good pending good, adoptEntry_eq]
  · have unit := cutIfLate_emission late
    refine ⟨?_, fun e mem => ?_, fun absent => ?_, ?_, fun a present => ?_, fun q other => ?_,
      (cutIfLate_keeps k s).mono (by decide), cutIfLate_live late, cutIfLate_latches late⟩
    · rw [unit]
      rfl
    · rw [unit] at mem
      exact mem_cutEmission_fifo mem
    · rw [unit]
      exact cutEmission_abort_new absent
    · rw [cutIfLate_emissions late, modifyAt_same]
      rfl
    · rw [unit]
      exact cutEmission_aborts_kept present
    · rw [unit]
      exact cutEmission_abort_other other

end Sys2Proof.Machine
end

section
/-! PROOFS. The requests on a slot's route and status (R84, R85, R109, R130). -/

namespace Sys2Proof.Machine

/-! ## The path of a request on a slot (R179, R181) -/

section
variable {p : List Word} {rest : List (List Word)} {s : State} {code : BitVec 8} {body : Fin 16 → RequestBody}

/-- R188: a slot number above 15 is answered BAD_ARGUMENT, reason slot. -/
theorem slotRequest_badNumber (ready : RequestReady code p rest s) (high : 15 < argument p 0) :
    Host.Outcome.next (φ := Fault) (ρ := Refusal) (whileRunning s (runRequest code (onSlot body))) =
      .next (offerReply (badArgumentReply p 1) (takeRequest rest s)) := by
  have number : indexOf 16 (operand (requestOperands p) 0) = none := indexOf_eq_none high
  rw [whileRunning_running ready.1, runRequest_ready ready, onSlot, number]
  rfl

/-- R179: a request on a slot that the part has is carried out by its own rule. -/
theorem slotRequest_run {k : Fin 16} (ready : RequestReady code p rest s) (slot : argument p 0 = k.val) :
    Host.Outcome.next (φ := Fault) (ρ := Refusal) (whileRunning s (runRequest code (onSlot body))) =
      .next
        (answerRequest p (body k (requestOperands p) (takeRequest rest s)).2
          (body k (requestOperands p) (takeRequest rest s)).1) := by
  have number : indexOf 16 (operand (requestOperands p) 0) = some k := indexOf_eq_some slot
  rw [whileRunning_running ready.1, runRequest_ready ready, onSlot, number]

end

/-! ## The words of a route and of a slot's status (R85, R109, R130) -/

theorem routeFieldWords_eq (f : RouteFields) :
    routeFieldWords f =
      [flag f.enabled, num f.stream.val, num f.delay, num f.holdLimit, num f.substKind.code, f.fillWord, num f.fillLength,
       num f.egressPort.val, f.outputTag.setWidth 32] := rfl

/-- R130: the abort records go out port by port. -/
theorem slotStatusWords_eq (k : Fin 16) (s : State) :
    slotStatusWords k s =
      slotPresence s.slots[k] s.emissions[k].record :: slotContextWords s.slots[k] ++ recordWords s.emissions[k].record ++
        fifoWords s.emissions[k] ++ (indexes 4).flatMap fun q => abortWords s.emissions[k].aborts[q] := by
  rw [slotStatusWords, toList_eq_map_indexes, List.flatMap_map]

/-! ## WRITE_ROUTE_ENTRY (R84) -/

theorem flagOf_isSome (code : Nat) : (flagOf code).isSome = decide (code ≤ 1) := by
  match code with
  | 0 | 1 => rfl
  | k + 2 =>
    rw [decide_eq_false (by omega)]
    rfl

theorem substKindOf_isSome (code : Nat) : (substKindOf code).isSome = decide (code ≤ 2) := by
  match code with
  | 0 | 1 | 2 => rfl
  | k + 3 =>
    rw [decide_eq_false (by omega)]
    rfl

theorem code_of_substKindOf {code : Nat} {kind : SubstKind} (h : substKindOf code = some kind) : kind.code = code := by
  match code with
  | 0 | 1 | 2 => cases h; rfl
  | _ + 3 => cases h

/-- R84: the checks after the slot number, with their bounds. -/
theorem routeChecks_eq (ops : List Word) :
    routeChecks ops =
      [(decide (operand ops 1 ≤ 1), .badArgument 2), (decide (operand ops 2 ≤ 31), .badArgument 3),
       (decide (operand ops 3 ≤ 7), .badArgument 4), (decide (operand ops 4 ≤ 255), .badArgument 5),
       (decide (operand ops 5 ≤ 2), .badArgument 6),
       (decide (1 ≤ operand ops 7 ∧ operand ops 7 ≤ 4096), .badArgument 7),
       (decide (operand ops 8 ≤ 3), .badArgument 8), (decide (operand ops 9 ≤ 61), .badArgument 9)] := by
  simp only [routeChecks, flagOf_isSome, substKindOf_isSome, within_eq_decide, Nat.zero_le, true_and]

theorem indexOf_getD_val {n v : Nat} [NeZero n] (h : v < n) : ((indexOf n v).getD 0).val = v := by
  rw [indexOf_eq_some (i := ⟨v, h⟩) rfl]
  rfl

/-- R84: operands that pass the checks name a stream, a kind of substitute and an egress port. -/
theorem named_of_routeChecks {ops : List Word} (good : firstFailure (routeChecks ops) = none) :
    (routeFieldsOf ops).stream.val = operand ops 2 ∧ (routeFieldsOf ops).substKind.code = operand ops 5 ∧
      (routeFieldsOf ops).egressPort.val = operand ops 8 := by
  have passes := (firstFailure_none _).mp good
  have stream := passes (within 0 31 (operand ops 2), .badArgument 3) (by simp [routeChecks])
  have kind := passes ((substKindOf (operand ops 5)).isSome, .badArgument 6) (by simp [routeChecks])
  have port := passes (within 0 3 (operand ops 8), .badArgument 8) (by simp [routeChecks])
  obtain ⟨named, hnamed⟩ := Option.isSome_iff_exists.mp kind
  simp only [within_eq_decide, decide_eq_true_eq] at stream port
  refine ⟨indexOf_getD_val (by omega), ?_, indexOf_getD_val (by omega)⟩
  have chosen : (routeFieldsOf ops).substKind = named := by simp only [routeFieldsOf, hnamed, Option.getD_some]
  rw [chosen]
  exact code_of_substKindOf hnamed

theorem exec_writeRouteEntry {p : List Word} {rest : List (List Word)} {s : State} {k : Fin 16}
    (ready : RequestReady 0x0C#8 p rest s) (slot : argument p 0 = k.val) :
    exec .writeRouteEntry s = .next
      (answerRequest p
        (checked (routeChecks (requestOperands p)) (takeRequest rest s)
          (storePending k (routeFieldsOf (requestOperands p)) (takeRequest rest s), .ok [])).2
        (checked (routeChecks (requestOperands p)) (takeRequest rest s)
          (storePending k (routeFieldsOf (requestOperands p)) (takeRequest rest s), .ok [])).1) :=
  slotRequest_run ready slot

/-- R84: the fields stored, by the operands of the request record. -/
theorem routeFieldsOf_requestOperands (p : List Word) :
    routeFieldsOf (requestOperands p) =
      { enabled := decide (argument p 1 = 1), stream := (routeFieldsOf (requestOperands p)).stream, delay := argument p 3,
        holdLimit := argument p 4, substKind := (routeFieldsOf (requestOperands p)).substKind, fillWord := p.getD 8 0,
        fillLength := argument p 7, egressPort := (routeFieldsOf (requestOperands p)).egressPort,
        outputTag := BitVec.ofNat 6 (argument p 9) } := by
  have word : (requestOperands p).getD 6 0 = p.getD 8 0 := by simp [requestOperands]
  have enabled : (operand (requestOperands p) 1 == 1) = decide (argument p 1 = 1) := rfl
  rw [← word, ← enabled]
  rfl

/-- Settles O46: each request on a slot number above 15, and on a slot that the part has. -/
theorem routeRequests : Obligations.RouteRequests := by
  intro p rest s
  refine ⟨fun high => ⟨fun ready => slotRequest_badNumber ready high, fun ready => slotRequest_badNumber ready high,
    fun ready => slotRequest_badNumber ready high⟩, fun k slot => ⟨fun ready => ?_, fun ready => ?_, fun ready => ?_⟩,
    routeFieldWords_eq⟩
  · exact slotRequest_run ready slot
  · intro first
    have checks : firstFailure (routeChecks (requestOperands p)) = first := by
      rw [routeChecks_eq]
      rfl
    rw [exec_writeRouteEntry ready slot]
    refine ⟨fun reason fails => ?_, fun good => ?_⟩
    · rw [checked_of_fails (checks.trans fails)]
      rfl
    · obtain ⟨stream, kind, port⟩ := named_of_routeChecks (checks.trans good)
      refine ⟨_, _, _, stream, kind, port, ?_⟩
      rw [checked_of_good (checks.trans good), ← routeFieldsOf_requestOperands]
      rfl
  · rw [← slotStatusWords_eq]
    exact slotRequest_run ready slot

end Sys2Proof.Machine
end

section
/-! PROOFS. Frame memory and the emissions: what a grant starts (R115, R133, R135, R136), and the completion of a slot read (R79, R116,
R117, R124, R138). -/

namespace Sys2Proof.Machine

/-! ## MEMORY_GRANT (R135) -/

theorem exec_memoryGrant {s : State} (running : s.resetHeld = none) : exec .memoryGrant s = .next (grantMemory s) :=
  congrArg Host.Outcome.next (whileRunning_running running grantMemory)

theorem grantMemory_busy {s : State} (busy : s.arbiter.access.isSome = true) : grantMemory s = s := by
  obtain ⟨a, access⟩ := Option.isSome_iff_exists.mp busy
  simp [grantMemory, access]

theorem grantMemory_unclaimed {s : State} (unclaimed : chooseClaim s = none) : grantMemory s = s := by
  simp [grantMemory, unclaimed]

theorem grantMemory_chosen {s : State} {a : Access} (idle : s.arbiter.access = none) (chosen : chooseClaim s = some a) :
    grantMemory s = startAccess a s := by
  simp [grantMemory, idle, chosen]

/-- R133: the head of the write queue becomes WRITING. -/
theorem startAccess_ingress {s : State} {e : WriteEntry} {rest : List WriteEntry} (queue : s.writeQueue = e :: rest) :
    startAccess .ingress s =
      { s with
        arbiter := { s.arbiter with access := some .ingress }
        writeQueue := { e with state := .writing } :: rest } := by
  simp [startAccess, modifyArbiter, startWrite, queue]

/-- R115: the read of an emission whose record names a buffer, a fill tag and a base block. -/
theorem startRead_of_record {u : EmissionUnit} {b : BufferName} {tag : BitVec 8} {base : Nat} (buffer : u.record.buffer = some b)
    (fillTag : u.record.fillTag = some tag) (baseBlock : u.record.baseBlock = some base) :
    startRead u =
      { u with
        record := { u.record with blocksRequested := u.record.blocksRequested + 1 }
        readInFlight := some
          { buffer := b, fillTag := tag, block := base + u.record.blocksRequested, owner := .activeEmission } } := by
  simp only [startRead, buffer, fillTag, baseBlock, Option.getD_some]

/-- R115, R136: the slot's read is in flight and the EGRESS pointer names the slot. -/
theorem startAccess_egress (k : Fin 16) (s : State) :
    startAccess (.egress k) s =
      { s with
        arbiter := { s.arbiter with access := some (.egress k), egressPointer := k }
        emissions := s.emissions.set k (startRead s.emissions[k]) } := rfl

/-- Settles O22: nothing granted, and the access started by the claim chosen. -/
theorem memoryGranted : Obligations.MemoryGranted := by
  intro s running
  rw [exec_memoryGrant running]
  refine ⟨fun nothing => congrArg Host.Outcome.next (nothing.elim grantMemory_busy grantMemory_unclaimed), fun idle =>
    ⟨fun refresh => congrArg Host.Outcome.next (grantMemory_chosen idle refresh),
      fun mgmt => congrArg Host.Outcome.next (grantMemory_chosen idle mgmt), fun e rest ingress queue => ?_,
      fun k b tag base egress buffer fillTag baseBlock => ?_⟩⟩
  · rw [grantMemory_chosen idle ingress, startAccess_ingress queue]
  · rw [grantMemory_chosen idle egress, startAccess_egress, startRead_of_record buffer fillTag baseBlock]

/-! ## The mark of an uncorrectable read (R79) -/

theorem reportMediaError_marks {r : SlotRead} {s : State} (complete : (bufferOf s r.buffer).complete = true)
    (tag : (bufferOf s r.buffer).fillTag = r.fillTag) :
    reportMediaError r s = modifyBuffer r.buffer (fun b => { b with mediaError := true }) s := by
  simp [reportMediaError, complete, tag]

theorem reportMediaError_passes {r : SlotRead} {s : State}
    (other : (bufferOf s r.buffer).complete = false ∨ (bufferOf s r.buffer).fillTag ≠ r.fillTag) :
    reportMediaError r s = s := by
  rcases other with incomplete | other
  · simp [reportMediaError, incomplete]
  · simp [reportMediaError, other]

/-! ## The words read, handed to the emission (R116, R124) -/

/-- R116: the block of the active emission. -/
theorem takeBlock_active {r : SlotRead} (owner : r.owner = .activeEmission) (words : List Word) (bad : Bool) (u : EmissionUnit) :
    takeBlock r words bad u =
      { u with
        readInFlight := none
        fifo := u.fifo ++
          [{ position := u.record.blocksRequested - 1, words := words, mediaError := bad, owner := .activeEmission,
             state := .held }] } := by
  rw [takeBlock, owner]

/-- R124: a cut emission takes no block. -/
theorem takeBlock_cut {r : SlotRead} (owner : r.owner = .cutEmission) (words : List Word) (bad : Bool) (u : EmissionUnit) :
    takeBlock r words bad u = refill { u with readInFlight := none } := by
  rw [takeBlock, owner]

/-! ## A slot read ended, before its access is judged (R116, R117, R124) -/

/-- R116, R124: memory IDLE and the words read handed to the slot's emission. -/
def takeSlotRead (k : Fin 16) (r : SlotRead) (s : State) : State :=
  modifyEmission k
    (takeBlock r (s.memory.deliverWords (64 * r.block) 64) (s.memory.worst (32 * r.block) 32 == .uncorrectable)) (endAccess s)

/-- R116, R79: what the completion of a slot read does before the access is judged. -/
def endSlotRead (k : Fin 16) (r : SlotRead) (s : State) : State :=
  if s.memory.worst (32 * r.block) 32 = .uncorrectable then reportMediaError r (takeSlotRead k r s) else takeSlotRead k r s

section
variable (k : Fin 16) (r : SlotRead) (s : State)

theorem completeSlotRead_eq :
    completeSlotRead k r s =
      judgeAccess (s.memory.worst (32 * r.block) 32) .slotReader k.val r.block (endSlotRead k r s) := rfl

theorem takeSlotRead_keeps : Keeps [.arbiter, .emissions] s (takeSlotRead k r s) :=
  (endAccess_keeps s).seq (modifyEmission_keeps _ k _) (by decide)

theorem takeSlotRead_rings : (takeSlotRead k r s).rings = s.rings := takeSlotRead_keeps k r s .rings (by decide)

/-- R79: the mark touches the rings alone. -/
theorem endSlotRead_keeps_taken : Keeps [.rings] (takeSlotRead k r s) (endSlotRead k r s) := by
  unfold endSlotRead
  split
  · exact reportMediaError_keeps r _
  · exact Keeps.refl _ _

theorem endSlotRead_keeps : Keeps [.arbiter, .emissions, .rings] s (endSlotRead k r s) :=
  (takeSlotRead_keeps k r s).seq (endSlotRead_keeps_taken k r s) (by decide)

theorem endSlotRead_arbiter : (endSlotRead k r s).arbiter = { s.arbiter with access := none } :=
  endSlotRead_keeps_taken k r s .arbiter (by decide)

theorem endSlotRead_emissions :
    (endSlotRead k r s).emissions =
      s.emissions.set k
        (takeBlock r (s.memory.deliverWords (64 * r.block) 64) (s.memory.worst (32 * r.block) 32 == .uncorrectable)
          s.emissions[k]) :=
  endSlotRead_keeps_taken k r s .emissions (by decide)

/-- The report of the access leaves what the end of the read did to the fields that no report touches. -/
theorem completeSlotRead_keeps_ended : Keeps faultTouches (endSlotRead k r s) (completeSlotRead k r s) :=
  judgeAccess_keeps _ _ _ _ _

end

section
variable {k : Fin 16} {r : SlotRead} {s : State}

theorem endSlotRead_rings_marked (bad : s.memory.worst (32 * r.block) 32 = .uncorrectable)
    (complete : (bufferOf s r.buffer).complete = true) (tag : (bufferOf s r.buffer).fillTag = r.fillTag) :
    (endSlotRead k r s).rings = (modifyBuffer r.buffer (fun b => { b with mediaError := true }) s).rings := by
  have marked := reportMediaError_marks (s := takeSlotRead k r s) complete tag
  rw [endSlotRead, if_pos bad, marked]
  rfl

theorem endSlotRead_rings_unmarked
    (unmarked : s.memory.worst (32 * r.block) 32 ≠ .uncorrectable ∨ (bufferOf s r.buffer).complete = false ∨
      (bufferOf s r.buffer).fillTag ≠ r.fillTag) :
    (endSlotRead k r s).rings = s.rings := by
  by_cases bad : s.memory.worst (32 * r.block) 32 = .uncorrectable
  · have passes := reportMediaError_passes (s := takeSlotRead k r s) (unmarked.resolve_left (not_not_intro bad))
    rw [endSlotRead, if_pos bad, passes, takeSlotRead_rings]
  · rw [endSlotRead, if_neg bad, takeSlotRead_rings]

/-! ## SLOT_READ_COMPLETION (R116) -/

theorem readInProgress_egress (access : s.arbiter.access = some (.egress k)) (inFlight : s.emissions[k].readInFlight = some r) :
    readInProgress s = some (k, r) := by
  unfold readInProgress
  rw [access]
  exact Option.map_eq_some_iff.mpr ⟨r, inFlight, rfl⟩

theorem exec_slotReadCompletion (running : s.resetHeld = none) (reading : readInProgress s = some (k, r)) :
    exec .slotReadCompletion s =
      if r.block < s.memory.blocks then .next (completeSlotRead k r s) else .fault .noSuchBlock := by
  show execSlotReadCompletion s = _
  simp [execSlotReadCompletion, running, reading]

end

/-- Settles O26: the block's place, and the read ended field by field; the report that follows touches none of these fields. -/
theorem slotReadCompleted : Obligations.SlotReadCompleted := by
  intro k r s running access inFlight
  rw [exec_slotReadCompletion running (readInProgress_egress access inFlight)]
  refine ⟨fun outside => if_neg (Nat.not_lt.mpr outside), fun inside => ⟨completeSlotRead k r s, if_pos inside, ?_⟩⟩
  have kept := completeSlotRead_keeps_ended k r s
  have emissions := (kept .emissions (by decide)).trans (endSlotRead_emissions k r s)
  have rings : (completeSlotRead k r s).rings = (endSlotRead k r s).rings := kept .rings (by decide)
  refine ⟨(kept .arbiter (by decide)).trans (endSlotRead_arbiter k r s),
    completeSlotRead_keeps k r s .memory (by decide), fun active => ?_, fun cut => ?_, fun bad complete tag => ?_,
    fun unmarked => rings.trans (endSlotRead_rings_unmarked unmarked),
    endSlotRead k r s, completeSlotRead_eq k r s, endSlotRead_keeps k r s, kept⟩
  · rw [emissions, takeBlock_active active, FrameMemory.deliverWords, beq_eq_decide]
  · rw [emissions, takeBlock_cut cut]
  · rw [rings, endSlotRead_rings_marked bad complete tag]
    rfl

end Sys2Proof.Machine
end

section
/-! PROOFS. Frame memory keeps its canonical form at every step (R131, R138, R143): only a write that lands, a write that a reset abandons,
the image of a power-on and a bit turned over reach it. -/

namespace Sys2Proof.Machine

/-! ## Where frame memory is not reached -/

theorem MemoryCanonical.of_apart {touched : List Field} {s t : State} (hs : MemoryCanonical s) (hk : Keeps touched s t)
    (apart : Field.memory ∉ touched) : MemoryCanonical t := by
  have same : t.memory = s.memory := hk .memory apart
  unfold MemoryCanonical
  rwa [same]

/-! ## The two completions that store (R133, R140) -/

/-- R133: with no write in progress nothing changes; else the head write lands. -/
theorem writeCompletion_cases {s t : State} (h : execWriteCompletion s = .next t) :
    t = s ∨ ∃ e rest, t = completeWrite e rest s := by
  unfold execWriteCompletion at h
  split at h
  · cases h; exact Or.inl rfl
  · split at h
    · cases h; exact Or.inl rfl
    · rename_i e rest _
      split at h
      · cases h; exact Or.inr ⟨e, rest, rfl⟩
      · cases h

/-- R139, R140: with no management access in progress nothing changes; else the access ends. -/
theorem managementAccessCompletion_cases {s t : State} (h : execManagementAccessCompletion s = .next t) :
    t = s ∨ ∃ j, t = completeManagement j s := by
  unfold execManagementAccessCompletion at h
  split at h
  · cases h; exact Or.inl rfl
  · split at h
    · cases h; exact Or.inl rfl
    · rename_i j _
      split at h
      · cases h; exact Or.inr ⟨j, rfl⟩
      · cases h

theorem completeWrite_memory (e : WriteEntry) (rest : List WriteEntry) (s : State) :
    (completeWrite e rest s).memory = s.memory.store (64 * e.target) e.payload := by
  unfold completeWrite
  dsimp only
  refine (judgeAccess_keeps _ _ _ _ _ .memory (by decide)).trans ?_
  refine (settleClosing_keeps _ _ .memory (by decide)).trans ?_
  exact ringCompletion_keeps e _ .memory (by decide)

theorem completeManagement_memory (j : MemoryJob) (s : State) :
    (completeManagement j s).memory = memoryAfter s.memory j :=
  (offerReply_keeps _ _ .memory (by decide)).trans (judgeAccess_keeps _ _ _ _ _ .memory (by decide))

theorem canonical_memoryAfter {m : FrameMemory} (hm : m.canonical) (j : MemoryJob) : (memoryAfter m j).canonical := by
  unfold memoryAfter
  split
  · exact FrameMemory.canonical_store hm _ _
  · exact hm

theorem memoryCanonical_of_writeCompletion {s t : State} (hs : MemoryCanonical s) (h : execWriteCompletion s = .next t) :
    MemoryCanonical t := by
  rcases writeCompletion_cases h with rfl | ⟨e, rest, rfl⟩
  · exact hs
  · unfold MemoryCanonical
    rw [completeWrite_memory]
    exact FrameMemory.canonical_store hs _ _

theorem memoryCanonical_of_managementAccessCompletion {s t : State} (hs : MemoryCanonical s)
    (h : execManagementAccessCompletion s = .next t) : MemoryCanonical t := by
  rcases managementAccessCompletion_cases h with rfl | ⟨j, rfl⟩
  · exact hs
  · unfold MemoryCanonical
    rw [completeManagement_memory]
    exact canonical_memoryAfter hs j

/-! ## The resets (R143, R186) and the reply that brings one (R185) -/

theorem memoryCanonical_powerOn (memsz : BitVec 2) (cells : List Host.Cell) (bad : List Nat) (s : State) :
    MemoryCanonical (powerOn memsz (canonicalCells cells) (canonicalBits bad) s) :=
  ⟨canonicalCells_wf cells, canonicalBits_rising bad⟩

/-- R143: a reset keeps frame memory, but for what an abandoned write may leave. -/
theorem MemoryCanonical.resetBlocks {s : State} (hs : MemoryCanonical s) : MemoryCanonical (resetBlocks s) := by
  show (keptMemory s).canonical
  unfold keptMemory
  split
  · exact hs
  · exact FrameMemory.canonical_abandon hs _ _ _

theorem MemoryCanonical.beginPinReset {s : State} (hs : MemoryCanonical s) : MemoryCanonical (beginPinReset s) := by
  unfold Machine.beginPinReset
  split
  · exact hs
  · exact hs.resetBlocks

theorem MemoryCanonical.replyDone {s : State} (hs : MemoryCanonical s) : MemoryCanonical (replyDone s) := by
  unfold Machine.replyDone
  split
  · exact hs
  · rename_i r rest _
    split
    · exact MemoryCanonical.resetBlocks (s := { s with replyQueue := rest }) hs
    · exact hs

theorem MemoryCanonical.burstDone {s : State} (hs : MemoryCanonical s) (p : Fin 4) (from_ : Participant) (b : Burst) :
    MemoryCanonical (burstDone p from_ b s) := by
  cases from_ with
  | slotEntry k => exact hs.of_apart (burstDone_slot_keeps p k b s) (by decide)
  | slotAbort k => exact hs
  | reply => exact hs.replyDone

theorem MemoryCanonical.grantEgress {s : State} (hs : MemoryCanonical s) (p : Fin 4) : MemoryCanonical (grantEgress p s) := by
  have taken (i : Fin 17) : MemoryCanonical (takeBurst p i s) := hs.of_apart (takeBurst_keeps p i s) (by decide)
  unfold Machine.grantEgress
  split
  · split
    · exact hs
    · split
      · exact hs
      · split
        · exact (taken _).of_apart (startSending_keeps p _ _ _) (by decide)
        · exact ((taken _).of_apart (countEgress_keeps _ p _) (by decide)).burstDone p _ _
  · exact hs

theorem MemoryCanonical.completeEgress {s : State} (hs : MemoryCanonical s) (p : Fin 4) :
    MemoryCanonical (completeEgress p s) := by
  unfold Machine.completeEgress
  split
  · exact hs
  · have ended := (hs.of_apart (modifyEgress_keeps s p fun q => { q with sending := none }) (by decide)).of_apart
      (countEgress_keeps _ p .sentBursts) (by decide)
    exact ended.burstDone p _ _

/-! ## Commands and steps -/

theorem memoryCanonical_of_whileRunning {s t : State} {f : State → State} (hs : MemoryCanonical s)
    (hf : MemoryCanonical (f s)) (h : Host.Outcome.next (φ := Fault) (ρ := Refusal) (whileRunning s f) = .next t) :
    MemoryCanonical t := by
  injection h with h
  rw [← h]
  unfold whileRunning
  split
  · exact hs
  · exact hf

/-- The law at each command that can touch frame memory; every other command leaves it. -/
theorem memoryCanonical_exec (c : Instr) (s t : State) (hs : MemoryCanonical s) (h : exec c s = .next t) :
    MemoryCanonical t := by
  by_cases apart : Field.memory ∉ touches c
  · exact hs.of_apart (exec_keeps h) apart
  · cases c with
    | powerOnReset memsz cells bad => cases h; exact memoryCanonical_powerOn memsz cells bad s
    | pinReset memsz => cases h; exact hs.resetBlocks
    | pinResetBegin => cases h; exact hs.beginPinReset
    | writeCompletion => exact memoryCanonical_of_writeCompletion hs h
    | managementAccessCompletion => exact memoryCanonical_of_managementAccessCompletion hs h
    | egressGrant p => exact memoryCanonical_of_whileRunning hs (hs.grantEgress p) h
    | egressBurstCompletion p => exact memoryCanonical_of_whileRunning hs (hs.completeEgress p) h
    | _ => exact absurd (by simp [touches]) apart

/-- R138: a bit turned over from outside keeps the bits in error rising; no other disturbance reaches frame memory. -/
theorem MemoryCanonical.upsetBy {s : State} (hs : MemoryCanonical s) (u : Upset) : MemoryCanonical (upsetBy u s) := by
  cases u with
  | memoryBit w bit =>
    obtain ⟨cells, bits⟩ := hs
    exact ⟨cells, rising_toggleBadBit bits _⟩
  | quiet | streamEntry | activeRoute | pendingRoute | clockStops | clockRuns => exact hs

theorem memoryCanonical_timeUnit (s : State) (hs : MemoryCanonical s) : MemoryCanonical (timeUnit s) := by
  have counted : MemoryCanonical (whileClocked countUnit s) :=
    hs.of_apart (whileClocked_keeps countUnit_keeps s) (by decide)
  unfold timeUnit takeUpset
  split
  · exact counted
  · rename_i u rest _
    exact MemoryCanonical.upsetBy (s := { whileClocked countUnit s with upsets := rest }) counted u

/-- Settles O55: every command, and a timebase unit, keeps the canonical form. -/
theorem memoryStaysCanonical : Obligations.MemoryStaysCanonical :=
  keptByStep_of (fun _ _ hs => hs) memoryCanonical_exec memoryCanonical_timeUnit

end Sys2Proof.Machine
end

section
/-! PROOFS. The claims on frame memory and the order in which the arbiter takes them (R115, R132, R134 to R136). -/

namespace Sys2Proof.Machine

/-! ## The order of the levels (R135) -/

/-- R135: the refresh at 8 owed, then the urgent claims, then the other claims, then a refresh owed. -/
theorem chooseClaim_eq (s : State) :
    chooseClaim s =
      if 8 ≤ s.arbiter.refreshOwed then some .refresh
      else
        (((kindsInOrder s.arbiter.order).findSome? (urgentClaim s)).or
          (((kindsInOrder s.arbiter.order).findSome? (normalClaim s)).or
            (if 1 ≤ s.arbiter.refreshOwed then some .refresh else none))) := by
  have urgent : refreshUrgent s = decide (8 ≤ s.arbiter.refreshOwed) := rfl
  have owed : refreshClaims s = decide (1 ≤ s.arbiter.refreshOwed) := rfl
  unfold chooseClaim
  rw [urgent, owed]
  simp only [decide_eq_true_eq]
  congr 1
  cases (kindsInOrder s.arbiter.order).findSome? (urgentClaim s) with
  | some a => rfl
  | none =>
    cases (kindsInOrder s.arbiter.order).findSome? (normalClaim s) with
    | some a => rfl
    | none => rfl

/-! ## INGRESS and MGMT (R132, R134) -/

theorem ingressClaims_iff (s : State) :
    ingressClaims s = true ↔
      (∃ e ∈ s.writeQueue, e.state = .queued) ∧ ∀ e ∈ s.writeQueue, e.state ≠ .writing := by
  simp [ingressClaims]

theorem urgentClaim_ingress (s : State) :
    urgentClaim s .ingress = if ingressClaims s = true ∧ 12 ≤ s.writeQueue.length then some .ingress else none := by
  have urgent : ingressUrgent s = (ingressClaims s && decide (12 ≤ s.writeQueue.length)) := rfl
  simp only [urgentClaim, urgent, Bool.and_eq_true, decide_eq_true_eq]

theorem normalClaim_mgmt_waiting {s : State} {j : MemoryJob} (idle : s.arbiter.access = none)
    (waits : s.executor = .waitMemory j) : normalClaim s .mgmt = some .mgmt := by
  simp [normalClaim, mgmtClaims, idle, waits]

theorem normalClaim_mgmt_other {s : State} (other : ∀ j, s.executor ≠ .waitMemory j) : normalClaim s .mgmt = none := by
  have unclaimed : mgmtClaims s = false := by
    unfold mgmtClaims
    split
    · rename_i j waits
      exact absurd waits (other j)
    all_goals rfl
  simp [normalClaim, unclaimed]

/-! ## EGRESS (R115, R136) -/

/-- R136: the reader taken is the first that claims, from the slot after the pointer. -/
theorem nextReader_eq_some_iff (s : State) (claims : EmissionUnit → Bool) (k : Fin 16) :
    nextReader s claims = some k ↔
      claims s.emissions[k] = true ∧
        ∀ j : Fin 16, (j - (s.arbiter.egressPointer + 1)).val < (k - (s.arbiter.egressPointer + 1)).val →
          claims s.emissions[j] = false := by
  rw [nextReader, nextIndex_eq_add_one]
  exact find_roundFrom_eq_some_iff _ k _

theorem map_egress_eq_some_iff (o : Option (Fin 16)) (k : Fin 16) :
    o.map Access.egress = some (.egress k) ↔ o = some k := by
  simp [Option.map_eq_some_iff]

/-- R115: when a reader's claim stands. -/
theorem readerClaims_iff (a : Arbiter) (u : EmissionUnit) :
    readerClaims a u = true ↔
      u.record.status = .active ∧ u.record.sourceKind = some .frame ∧ u.record.blocksRequested < u.record.burstsTotal ∧
        u.readInFlight = none ∧ fifoFill u ≤ a.lowMark := by
  simp only [readerClaims, Bool.and_eq_true, beq_iff_eq, decide_eq_true_eq, Option.isNone_iff_eq_none, and_assoc]

theorem readerUrgent_iff (a : Arbiter) (u : EmissionUnit) :
    readerUrgent a u = true ↔ readerClaims a u = true ∧ fifoFill u ≤ a.urgentMark := by
  simp only [readerUrgent, Bool.and_eq_true, decide_eq_true_eq]

/-- Settles O21: the order of the levels, each kind's claim, the search round the readers, and the six orders. -/
theorem claimOrder : Obligations.ClaimOrder := by
  refine ⟨fun s => ⟨chooseClaim_eq s, ingressClaims_iff s, urgentClaim_ingress s, rfl, rfl, fun idle => ⟨?_, ?_⟩, fun k => ?_,
    fun k => ?_, fun u => ⟨readerClaims_iff _ u, readerUrgent_iff _ u⟩⟩, rfl, rfl, rfl, rfl, rfl, rfl⟩
  · exact fun j waits => normalClaim_mgmt_waiting idle waits
  · exact normalClaim_mgmt_other
  · exact (map_egress_eq_some_iff _ k).trans (nextReader_eq_some_iff s _ k)
  · exact (map_egress_eq_some_iff _ k).trans (nextReader_eq_some_iff s _ k)

end Sys2Proof.Machine
end

section
/-! PROOFS. Error correction (R138): one memory word judged and delivered, an access judged by its worst memory word, a write by those it
merges (R133, R140); and frame memory after words are stored. -/

namespace Sys2Proof.Machine

/-! ## One memory word -/

theorem FrameMemory.verdict_of_bits {m : FrameMemory} {k : Nat} {bits : List Nat} (h : badBitsOf m.badBits k = bits) :
    m.verdict k = verdictOf bits := by
  rw [FrameMemory.verdict, h]

/-- R138: both words of a memory word are delivered through its bits in error. -/
theorem FrameMemory.deliver_of_bits {m : FrameMemory} {k a : Nat} {bits : List Nat} (word : a / 2 = k)
    (h : badBitsOf m.badBits k = bits) : m.deliver a = deliveredWord bits a (m.cells.readWord a) := by
  rw [FrameMemory.deliver, word, h]

/-! ## The worst memory word -/

theorem EccVerdict.worse_eq_uncorrectable_iff (a b : EccVerdict) :
    a.worse b = .uncorrectable ↔ a = .uncorrectable ∨ b = .uncorrectable := by
  cases a <;> cases b <;> decide

theorem EccVerdict.worse_eq_good_iff (a b : EccVerdict) : a.worse b = .good ↔ a = .good ∧ b = .good := by
  cases a <;> cases b <;> decide

theorem foldl_worse_eq_uncorrectable_iff (f : Nat → EccVerdict) (is : List Nat) (v : EccVerdict) :
    is.foldl (fun acc i => acc.worse (f i)) v = .uncorrectable ↔ v = .uncorrectable ∨ ∃ i ∈ is, f i = .uncorrectable := by
  induction is generalizing v with
  | nil => simp
  | cons i rest ih =>
    rw [List.foldl_cons, ih, EccVerdict.worse_eq_uncorrectable_iff, List.exists_mem_cons_iff, or_assoc]

theorem foldl_worse_eq_good_iff (f : Nat → EccVerdict) (is : List Nat) (v : EccVerdict) :
    is.foldl (fun acc i => acc.worse (f i)) v = .good ↔ v = .good ∧ ∀ i ∈ is, f i = .good := by
  induction is generalizing v with
  | nil => simp
  | cons i rest ih => rw [List.foldl_cons, ih, EccVerdict.worse_eq_good_iff, List.forall_mem_cons, and_assoc]

theorem FrameMemory.worst_eq_uncorrectable_iff (m : FrameMemory) (k n : Nat) :
    m.worst k n = .uncorrectable ↔ ∃ i, i < n ∧ m.verdict (k + i) = .uncorrectable := by
  rw [FrameMemory.worst, foldl_worse_eq_uncorrectable_iff]
  simp

theorem FrameMemory.worst_eq_good_iff (m : FrameMemory) (k n : Nat) :
    m.worst k n = .good ↔ ∀ i, i < n → m.verdict (k + i) = .good := by
  rw [FrameMemory.worst, foldl_worse_eq_good_iff]
  simp

/-! ## The memory words that a write merges (R133, R140) -/

theorem FrameMemory.mergeVerdict_none (m : FrameMemory) (a : Nat) : m.mergeVerdict a 0 = .good := rfl

theorem FrameMemory.mergeVerdict_some (m : FrameMemory) (a : Nat) {n : Nat} (h : n ≠ 0) :
    m.mergeVerdict a n =
      (if a % 2 = 1 then m.verdict (a / 2) else .good).worse
        (if (a + n) % 2 = 1 then m.verdict ((a + n - 1) / 2) else .good) :=
  if_neg h

theorem ite_good_eq_uncorrectable_iff (c : Prop) [Decidable c] (v : EccVerdict) :
    (if c then v else .good) = .uncorrectable ↔ c ∧ v = .uncorrectable := by
  by_cases h : c <;> simp [h]

theorem ite_good_eq_good_iff (c : Prop) [Decidable c] (v : EccVerdict) :
    (if c then v else .good) = .good ↔ (c → v = .good) := by
  by_cases h : c <;> simp [h]

theorem FrameMemory.mergeVerdict_eq_uncorrectable_iff (m : FrameMemory) (a n : Nat) :
    m.mergeVerdict a n = .uncorrectable ↔
      n ≠ 0 ∧ ((a % 2 = 1 ∧ m.verdict (a / 2) = .uncorrectable) ∨
        ((a + n) % 2 = 1 ∧ m.verdict ((a + n - 1) / 2) = .uncorrectable)) := by
  by_cases empty : n = 0
  · subst empty
    simp [mergeVerdict_none]
  · rw [m.mergeVerdict_some a empty, EccVerdict.worse_eq_uncorrectable_iff, ite_good_eq_uncorrectable_iff,
      ite_good_eq_uncorrectable_iff, and_iff_right empty]

theorem FrameMemory.mergeVerdict_eq_good_iff (m : FrameMemory) (a n : Nat) :
    m.mergeVerdict a n = .good ↔
      n = 0 ∨ ((a % 2 = 1 → m.verdict (a / 2) = .good) ∧
        ((a + n) % 2 = 1 → m.verdict ((a + n - 1) / 2) = .good)) := by
  by_cases empty : n = 0
  · simp [empty, mergeVerdict_none]
  · rw [m.mergeVerdict_some a empty, EccVerdict.worse_eq_good_iff, ite_good_eq_good_iff, ite_good_eq_good_iff,
      or_iff_right empty]

/-- Settles O23: a memory word by its bits in error, an access and a merge by their memory words, and the report of each verdict. -/
theorem errorsJudged : Obligations.ErrorsJudged := by
  refine ⟨fun m k => ?_, fun m k n => ⟨m.worst_eq_uncorrectable_iff k n, m.worst_eq_good_iff k n⟩,
    fun m a n => ⟨m.mergeVerdict_eq_uncorrectable_iff a n, m.mergeVerdict_eq_good_iff a n⟩,
    fun source i block s => ⟨rfl, rfl, rfl⟩⟩
  have even : 2 * k / 2 = k := by omega
  have odd : (2 * k + 1) / 2 = k := by omega
  refine ⟨fun clean => ?_, fun b one => ?_, fun b c two => FrameMemory.verdict_of_bits two⟩
  · exact ⟨FrameMemory.verdict_of_bits clean, FrameMemory.deliver_of_bits even clean, FrameMemory.deliver_of_bits odd clean⟩
  · exact ⟨FrameMemory.verdict_of_bits one, FrameMemory.deliver_of_bits even one, FrameMemory.deliver_of_bits odd one⟩

/-! ## Bytes after words are written one after another -/

theorem Memory.read_writeWords {m : Memory} (h : m.wf = true) (w x : Nat) (vs : List Word)
    (outside : x / 4 < w ∨ w + vs.length ≤ x / 4) : (m.writeWords w vs).read x = m.read x := by
  induction vs generalizing m w with
  | nil => rfl
  | cons v rest ih =>
    rw [List.length_cons] at outside
    have other : x / 4 ≠ w := by omega
    rw [Memory.writeWords, ih (Memory.wf_writeWord h w v) (w + 1) (by omega), Memory.read_writeWord h w x v other]

/-! ## A store as whole memory words (R133, R140) -/

/-- R133: the word before the first stored, written back as delivered where the store begins at an odd word. -/
def mergedBefore (m : FrameMemory) (a : Nat) : List Word := if a % 2 = 1 then [m.deliver (a - 1)] else []

/-- R133: the word after the last stored, written back as delivered where the store ends in the middle of a memory word. -/
def mergedAfter (m : FrameMemory) (a n : Nat) : List Word := if (a + n) % 2 = 1 then [m.deliver (a + n)] else []

/-- R133: all the words that a store of words from a word address on writes, from an even word on. -/
def storedWords (m : FrameMemory) (a : Nat) (vs : List Word) : List Word :=
  mergedBefore m a ++ vs ++ mergedAfter m a vs.length

theorem length_mergedBefore (m : FrameMemory) (a : Nat) : (mergedBefore m a).length = a % 2 := by
  by_cases odd : a % 2 = 1
  · simp [mergedBefore, odd]
  · simp [mergedBefore, odd]
    omega

theorem length_mergedAfter (m : FrameMemory) (a n : Nat) : (mergedAfter m a n).length = (a + n) % 2 := by
  by_cases odd : (a + n) % 2 = 1
  · simp [mergedAfter, odd]
  · simp [mergedAfter, odd]
    omega

theorem length_storedWords (m : FrameMemory) (a : Nat) (vs : List Word) :
    (storedWords m a vs).length = a % 2 + vs.length + (a + vs.length) % 2 := by
  simp only [storedWords, List.length_append, length_mergedBefore, length_mergedAfter]

section
variable {m : FrameMemory} {vs : List Word} (filled : vs ≠ [])
include filled

theorem FrameMemory.store_cells (a : Nat) :
    (m.store a vs).cells = m.cells.writeWords (a - a % 2) (storedWords m a vs) := by
  have nonzero : vs.length ≠ 0 := by simpa using filled
  have before : (if vs.length ≠ 0 ∧ a % 2 = 1 then [m.deliver (a - 1)] else []) = mergedBefore m a := by
    simp [mergedBefore, filled]
  have after : (if vs.length ≠ 0 ∧ (a + vs.length) % 2 = 1 then [m.deliver (a + vs.length)] else []) =
      mergedAfter m a vs.length := by
    simp [mergedAfter, filled]
  unfold FrameMemory.store
  dsimp only
  rw [before, after, length_mergedBefore]
  rfl

/-- A word of the memory words written reads back as the word that the store writes there. -/
theorem FrameMemory.readWord_store (hm : m.cells.wf = true) {a x i : Nat} (place : x = a - a % 2 + i)
    (inside : i < (storedWords m a vs).length) :
    (m.store a vs).cells.readWord x = (storedWords m a vs)[i] := by
  have offset : a - a % 2 + i - (a - a % 2) = i := by omega
  rw [FrameMemory.store_cells filled, Memory.readWord_writeWords hm, place, if_pos (Nat.le_add_right _ _), offset,
    List.getD_eq_getElem _ _ inside]

theorem FrameMemory.readWord_store_stored (hm : m.cells.wf = true) (a i : Nat) (h : i < vs.length) :
    (m.store a vs).cells.readWord (a + i) = vs[i] := by
  have inside : a % 2 + i < (storedWords m a vs).length := by rw [length_storedWords]; omega
  rw [FrameMemory.readWord_store filled hm (i := a % 2 + i) (by omega) inside]
  simp only [storedWords]
  rw [List.getElem_append_left (by simp [length_mergedBefore]; omega),
    List.getElem_append_right (by simp [length_mergedBefore])]
  simp [length_mergedBefore]

theorem FrameMemory.readWord_store_before (hm : m.cells.wf = true) {a : Nat} (odd : a % 2 = 1) :
    (m.store a vs).cells.readWord (a - 1) = m.deliver (a - 1) := by
  have inside : 0 < (storedWords m a vs).length := by rw [length_storedWords]; omega
  rw [FrameMemory.readWord_store filled hm (i := 0) (by omega) inside]
  simp [storedWords, mergedBefore, odd]

theorem FrameMemory.readWord_store_after (hm : m.cells.wf = true) {a : Nat} (odd : (a + vs.length) % 2 = 1) :
    (m.store a vs).cells.readWord (a + vs.length) = m.deliver (a + vs.length) := by
  have inside : a % 2 + vs.length < (storedWords m a vs).length := by rw [length_storedWords]; omega
  rw [FrameMemory.readWord_store filled hm (i := a % 2 + vs.length) (by omega) inside]
  simp only [storedWords]
  rw [List.getElem_append_right (by simp [length_mergedBefore])]
  simp [length_mergedBefore, mergedAfter, odd]

theorem FrameMemory.read_store_outside (hm : m.cells.wf = true) {a byte : Nat}
    (outside : byte / 8 < a / 2 ∨ (a + vs.length - 1) / 2 < byte / 8) :
    (m.store a vs).cells.read byte = m.cells.read byte := by
  have nonzero : 0 < vs.length := List.length_pos_iff.mpr filled
  rw [FrameMemory.store_cells filled]
  refine Memory.read_writeWords hm _ _ _ ?_
  rw [length_storedWords]
  omega

/-- Just the memory words written have fresh check bits. -/
theorem FrameMemory.mem_badBits_store (a bit : Nat) :
    bit ∈ (m.store a vs).badBits ↔
      bit ∈ m.badBits ∧ (bit / 72 < a / 2 ∨ (a + vs.length - 1) / 2 < bit / 72) := by
  have nonzero : vs.length ≠ 0 := by simpa using filled
  have span : memoryWordSpan a vs.length = (a + vs.length - 1) / 2 - a / 2 + 1 := if_neg nonzero
  show bit ∈ clearBadBits m.badBits (a / 2) (memoryWordSpan a vs.length) ↔ _
  rw [span, clearBadBits, List.mem_filter]
  refine and_congr_right fun _ => ?_
  rw [← Bool.decide_and, Bool.not_eq_true', decide_eq_false_iff_not]
  omega

end

/-- Settles O24: each word of the memory words written, each byte outside them, and the bits in error. -/
theorem storedWordsReadBack : Obligations.StoredWordsReadBack := by
  intro m a vs hm filled
  exact ⟨fun i h => FrameMemory.readWord_store_stored filled hm a i h, FrameMemory.readWord_store_before filled hm,
    FrameMemory.readWord_store_after filled hm, fun _ outside => FrameMemory.read_store_outside filled hm outside,
    FrameMemory.mem_badBits_store filled a, m.store_blocks a vs⟩

end Sys2Proof.Machine
end

section
/-! PROOFS. The end of a management access (R138 to R140, R180) and the refresh of frame memory (R137). -/

namespace Sys2Proof.Machine

/-! ## MANAGEMENT_ACCESS_COMPLETION (R139, R140) -/

theorem managementInProgress_waiting {s : State} {j : MemoryJob} (access : s.arbiter.access = some .mgmt)
    (waits : s.executor = .waitMemory j) : managementInProgress s = some j := by
  rw [managementInProgress, if_pos access, waits]

theorem exec_managementAccessCompletion {s : State} {j : MemoryJob} (running : s.resetHeld = none)
    (inProgress : managementInProgress s = some j) :
    exec .managementAccessCompletion s =
      if j.address + j.count ≤ 64 * s.memory.blocks then .next (completeManagement j s) else .fault .noSuchBlock := by
  show execManagementAccessCompletion s = _
  simp [execManagementAccessCompletion, running, inProgress]

section
variable {j : MemoryJob} {s : State}

/-- R139: the end of a read that met no uncorrectable memory word. -/
theorem completeManagement_read (read : j.data = none)
    (delivered : s.memory.worst (j.address / 2) (memoryWordSpan j.address j.count) ≠ .uncorrectable) :
    completeManagement j s =
      offerReply
        { tag := j.tag, code := j.code, status := .ok, reason := 0, results := s.memory.deliverWords j.address j.count }
        (judgeAccess (s.memory.worst (j.address / 2) (memoryWordSpan j.address j.count)) .management 0 (j.address / 64)
          { s with arbiter := { s.arbiter with access := none } }) := by
  simp only [completeManagement, memoryJobVerdict, memoryReply, memoryAfter, read, if_neg delivered]
  rfl

/-- R138, R139: the end of a read that met an uncorrectable memory word. -/
theorem completeManagement_mediaError (read : j.data = none)
    (lost : s.memory.worst (j.address / 2) (memoryWordSpan j.address j.count) = .uncorrectable) :
    completeManagement j s =
      offerReply { tag := j.tag, code := j.code, status := .mediaError, reason := 0, results := [] }
        (judgeAccess .uncorrectable .management 0 (j.address / 64)
          { s with arbiter := { s.arbiter with access := none } }) := by
  simp only [completeManagement, memoryJobVerdict, memoryReply, memoryAfter, read, lost, if_true]
  rfl

/-- R140: the end of a write. -/
theorem completeManagement_write {ws : List Word} (write : j.data = some ws) :
    completeManagement j s =
      offerReply { tag := j.tag, code := j.code, status := .ok, reason := 0, results := [] }
        (judgeAccess (s.memory.mergeVerdict j.address ws.length) .management 0 (j.address / 64)
          { s with
            arbiter := { s.arbiter with access := none }
            memory := s.memory.store j.address ws }) := by
  simp only [completeManagement, memoryJobVerdict, memoryReply, memoryAfter, write]
  rfl

end

/-- Settles O27: the words' place, then a read delivered, a read lost to error, or a write. -/
theorem managementAccessCompleted : Obligations.ManagementAccessCompleted := by
  intro j s running access waits
  rw [exec_managementAccessCompletion running (managementInProgress_waiting access waits)]
  refine ⟨fun outside => if_neg (Nat.not_le.mpr outside), fun inside => ?_⟩
  rw [if_pos inside]
  exact ⟨fun read delivered => congrArg Host.Outcome.next (completeManagement_read read delivered),
    fun read lost => congrArg Host.Outcome.next (completeManagement_mediaError read lost),
    fun ws write => congrArg Host.Outcome.next (completeManagement_write write)⟩

/-! ## REFRESH_TIMER_EXPIRY and REFRESH_COMPLETION (R137) -/

theorem exec_refreshTimerExpiry {s : State} (running : s.resetHeld = none) :
    exec .refreshTimerExpiry s = .next (expireRefreshTimer s) :=
  congrArg Host.Outcome.next (whileRunning_running running expireRefreshTimer)

theorem exec_refreshCompletion {s : State} (running : s.resetHeld = none) :
    exec .refreshCompletion s = .next (completeRefresh s) :=
  congrArg Host.Outcome.next (whileRunning_running running completeRefresh)

section
variable {s : State}

theorem expireRefreshTimer_early (early : s.arbiter.refreshTimer < s.arbiter.refreshInterval) :
    expireRefreshTimer s = s :=
  if_neg fun due => Nat.not_le.mpr early ((refreshTimerDue_iff _).mp due)

/-- R137: the expiry with fewer than 8 refreshes owed. -/
theorem expireRefreshTimer_owed (due : s.arbiter.refreshInterval ≤ s.arbiter.refreshTimer)
    (room : s.arbiter.refreshOwed < 8) :
    expireRefreshTimer s =
      { s with arbiter := { s.arbiter with refreshTimer := 0, refreshOwed := s.arbiter.refreshOwed + 1 } } :=
  (if_pos ((refreshTimerDue_iff _).mpr due)).trans (if_pos room)

/-- R137: the expiry with 8 refreshes owed. -/
theorem expireRefreshTimer_overdue (due : s.arbiter.refreshInterval ≤ s.arbiter.refreshTimer)
    (full : 8 ≤ s.arbiter.refreshOwed) :
    expireRefreshTimer s =
      majorFault .refreshOverdue .refresh 0 none { s with arbiter := { s.arbiter with refreshTimer := 0 } } :=
  (if_pos ((refreshTimerDue_iff _).mpr due)).trans (if_neg (Nat.not_lt.mpr full))

theorem completeRefresh_refreshing (access : s.arbiter.access = some .refresh) :
    completeRefresh s =
      { s with arbiter := { s.arbiter with access := none, refreshOwed := s.arbiter.refreshOwed - 1 } } :=
  if_pos access

theorem completeRefresh_other (access : s.arbiter.access ≠ some .refresh) : completeRefresh s = s := if_neg access

end

/-- Settles O28: the timer below its interval, at it with room or with 8 owed, and the end of a refresh or of no refresh. -/
theorem refreshRows : Obligations.RefreshRows := by
  intro s running
  rw [exec_refreshTimerExpiry running, exec_refreshCompletion running]
  exact ⟨fun early => congrArg Host.Outcome.next (expireRefreshTimer_early early),
    fun due => ⟨fun room => congrArg Host.Outcome.next (expireRefreshTimer_owed due room),
      fun full => congrArg Host.Outcome.next (expireRefreshTimer_overdue due full)⟩,
    fun access => congrArg Host.Outcome.next (completeRefresh_refreshing access),
    fun access => congrArg Host.Outcome.next (completeRefresh_other access)⟩

end Sys2Proof.Machine
end

section
/-! PROOFS. WRITE_COMPLETION (R133): the head write lands and is counted (R53), may complete its frame (R72, R73), and may bring a CLOSING
stream to OFF (R52); then its access is judged (R138). -/

namespace Sys2Proof.Machine

/-! ## The report of an access counts in no stream (R138) -/

theorem majorFault_live (kind : FaultKind) (source : FaultSource) (i : Nat) (block : Option Nat) (s : State) :
    (majorFault kind source i block s).live = s.live := majorFault_keeps kind source i block s .live (by decide)

theorem minorFault_live (kind : FaultKind) (source : FaultSource) (i : Nat) (block : Option Nat) (s : State) :
    (minorFault kind source i block s).live = s.live := minorFault_keeps kind source i block s .live (by decide)

theorem judgeAccess_liveStreams (v : EccVerdict) (source : FaultSource) (i block : Nat) (s : State) :
    (judgeAccess v source i block s).live.streams = s.live.streams := by
  cases v with
  | good => rfl
  | corrected => rw [judgeAccess, minorFault_live]; rfl
  | uncorrectable => rw [judgeAccess, majorFault_live]; rfl

/-! ## The settling of a CLOSING stream (R52) -/

theorem settleClosing_context (n : Fin 32) (s : State) :
    (settleClosing n s).contexts[n] =
      { s.contexts[n] with
        state :=
          if s.contexts[n].state = .closing ∧ s.contexts[n].writesOutstanding = 0 ∧
              (∀ i : Fin 8, s.rings[n][i].holdCount = 0) then .off
          else s.contexts[n].state } := by
  rw [settleClosing_eq]
  exact Vector.getElem_set_self _

theorem settleClosing_context_other {n m : Fin 32} (s : State) (other : m ≠ n) :
    (settleClosing n s).contexts[m] = s.contexts[m] := by
  unfold settleClosing
  split
  · exact modifyContext_other _ s other
  · rfl

/-! ## The frame of the write (R72, R73) -/

/-- R72, R73: the write is the last of its frame, and its buffer is SEALING with the fill tag of the write. -/
def CompletesFrame (e : WriteEntry) (s : State) : Prop :=
  e.lastBurst = true ∧ s.rings[e.stream][e.buffer].state = .sealing ∧ s.rings[e.stream][e.buffer].fillTag = e.fillTag

section
variable {e : WriteEntry} {s : State}

theorem ringCompletion_completes (h : CompletesFrame e s) :
    ringCompletion e s = completeFrame ⟨e.stream, e.buffer⟩ s := if_pos h

theorem ringCompletion_passes (h : ¬ CompletesFrame e s) : ringCompletion e s = s := if_neg h

/-- R48, R72: a frame that completes changes in its context the sequence counter and the window frame count. -/
theorem completeFrame_context (b : BufferName) (s : State) :
    (completeFrame b s).contexts[b.stream] =
      { s.contexts[b.stream] with
        sequenceCounter := s.contexts[b.stream].sequenceCounter + 1#32
        windowFrames :=
          if s.contexts[b.stream].windowFrames < 15 then s.contexts[b.stream].windowFrames + 1
          else s.contexts[b.stream].windowFrames } :=
  modifyContext_same _ _ _

theorem completeFrame_rings (b : BufferName) (s : State) :
    (completeFrame b s).rings =
      s.rings.set b.stream
        (s.rings[b.stream].set b.ring
          { s.rings[b.stream][b.ring] with
            state := .ready
            sequence := some (s.contexts[b.stream].sequenceCounter + 1#32)
            stamp := some s.reference.tickNumber }) := rfl

theorem completeFrame_live (b : BufferName) (s : State) :
    (completeFrame b s).live =
      { s.live with
        streams := s.live.streams.set b.stream
          { s.live.streams[b.stream] with accepted := bump s.counterMode s.live.streams[b.stream].accepted 1 } } := rfl

/-- R58: the completion of a frame takes and lets go of no hold. -/
theorem ringCompletion_holdCount (e : WriteEntry) (s : State) (i : Fin 8) :
    (ringCompletion e s).rings[e.stream][i].holdCount = s.rings[e.stream][i].holdCount := by
  by_cases completes : CompletesFrame e s
  · rw [ringCompletion_completes completes]
    show (modifyAt s.rings e.stream _)[e.stream][i].holdCount = _
    rw [modifyAt_same, modifyAt_get]
    split
    · rename_i own
      rw [own]
      rfl
    · rfl
  · rw [ringCompletion_passes completes]

/-- R48, R72: beside the sequence counter and the window frame count the completion changes nothing in the stream's context. -/
theorem ringCompletion_context (e : WriteEntry) (s : State) :
    (ringCompletion e s).contexts[e.stream] =
      { s.contexts[e.stream] with
        sequenceCounter := (ringCompletion e s).contexts[e.stream].sequenceCounter
        windowFrames := (ringCompletion e s).contexts[e.stream].windowFrames } := by
  by_cases completes : CompletesFrame e s
  · rw [ringCompletion_completes completes]
    have context := completeFrame_context ⟨e.stream, e.buffer⟩ s
    dsimp only at context
    rw [context]
  · rw [ringCompletion_passes completes]

theorem ringCompletion_context_other (e : WriteEntry) (s : State) {n : Fin 32} (other : n ≠ e.stream) :
    (ringCompletion e s).contexts[n] = s.contexts[n] := by
  by_cases completes : CompletesFrame e s
  · rw [ringCompletion_completes completes]
    exact modifyAt_other _ _ _ _ other
  · rw [ringCompletion_passes completes]

/-- R145: the completion counts in no other block. -/
theorem ringCompletion_live (e : WriteEntry) (s : State) :
    (ringCompletion e s).live = { s.live with streams := (ringCompletion e s).live.streams } := by
  by_cases completes : CompletesFrame e s
  · rw [ringCompletion_completes completes, completeFrame_live]
  · rw [ringCompletion_passes completes]

end

/-! ## The write ended, before its access is judged (R133) -/

/-- R53, R133: the head entry gone from the queue, its words stored, memory IDLE, and one write outstanding fewer. -/
def writeLanded (e : WriteEntry) (rest : List WriteEntry) (s : State) : State :=
  modifyContext e.stream (fun c => { c with writesOutstanding := c.writesOutstanding - 1 })
    (endAccess { s with memory := s.memory.store (64 * e.target) e.payload, writeQueue := rest })

/-- R52, R72, R133: what the completion of a write does before the access is judged. -/
def writeEnded (e : WriteEntry) (rest : List WriteEntry) (s : State) : State :=
  settleClosing e.stream (ringCompletion e (writeLanded e rest s))

section
variable (e : WriteEntry) (rest : List WriteEntry) (s : State)

theorem completeWrite_eq :
    completeWrite e rest s =
      judgeAccess (s.memory.mergeVerdict (64 * e.target) e.payload.length) .writeQueue e.stream.val e.target
        (writeEnded e rest s) := rfl

theorem writeLanded_keeps : Keeps [.memory, .writeQueue, .arbiter, .contexts] s (writeLanded e rest s) := by
  intro f hf; cases f <;> first | rfl | simp at hf

theorem writeEnded_keeps_landed : Keeps [.contexts, .rings, .live] (writeLanded e rest s) (writeEnded e rest s) :=
  (ringCompletion_keeps e _).seq (settleClosing_keeps _ _) (by decide)

theorem writeEnded_keeps :
    Keeps [.memory, .writeQueue, .arbiter, .contexts, .rings, .live] s (writeEnded e rest s) :=
  (writeLanded_keeps e rest s).seq (writeEnded_keeps_landed e rest s) (by decide)

/-- R52: the settling of the stream changes its context alone. -/
theorem writeEnded_keeps_ringCompletion :
    Keeps [.contexts] (ringCompletion e (writeLanded e rest s)) (writeEnded e rest s) := settleClosing_keeps _ _

/-- The report of the access leaves what the end of the write did to the fields that no report touches. -/
theorem completeWrite_keeps_ended : Keeps faultTouches (writeEnded e rest s) (completeWrite e rest s) :=
  judgeAccess_keeps _ _ _ _ _

theorem writeLanded_context :
    (writeLanded e rest s).contexts[e.stream] =
      { s.contexts[e.stream] with writesOutstanding := s.contexts[e.stream].writesOutstanding - 1 } :=
  modifyContext_same _ _ _

theorem completesFrame_writeLanded : CompletesFrame e (writeLanded e rest s) ↔ CompletesFrame e s := Iff.rfl

/-- R52: a CLOSING stream whose last write this was, and of which no buffer is held, goes to OFF. -/
theorem writeEnded_context :
    (writeEnded e rest s).contexts[e.stream] =
      { s.contexts[e.stream] with
        writesOutstanding := s.contexts[e.stream].writesOutstanding - 1
        sequenceCounter := (ringCompletion e (writeLanded e rest s)).contexts[e.stream].sequenceCounter
        windowFrames := (ringCompletion e (writeLanded e rest s)).contexts[e.stream].windowFrames
        state :=
          if s.contexts[e.stream].state = .closing ∧ s.contexts[e.stream].writesOutstanding ≤ 1 ∧
              (∀ i : Fin 8, s.rings[e.stream][i].holdCount = 0) then .off
          else s.contexts[e.stream].state } := by
  have held (i : Fin 8) : (ringCompletion e (writeLanded e rest s)).rings[e.stream][i].holdCount =
      s.rings[e.stream][i].holdCount := ringCompletion_holdCount e _ i
  have context := ringCompletion_context e (writeLanded e rest s)
  rw [writeLanded_context] at context
  have last : s.contexts[e.stream].writesOutstanding - 1 = 0 ↔ s.contexts[e.stream].writesOutstanding ≤ 1 := by omega
  rw [writeEnded, settleClosing_context, context]
  simp only [held, last]

theorem writeEnded_context_other {n : Fin 32} (other : n ≠ e.stream) :
    (writeEnded e rest s).contexts[n] = s.contexts[n] :=
  (settleClosing_context_other _ other).trans
    ((ringCompletion_context_other e _ other).trans (modifyContext_other _ _ other))

theorem writeEnded_rings : (writeEnded e rest s).rings = (ringCompletion e (writeLanded e rest s)).rings :=
  writeEnded_keeps_ringCompletion e rest s .rings (by decide)

theorem writeEnded_live : (writeEnded e rest s).live = (ringCompletion e (writeLanded e rest s)).live :=
  writeEnded_keeps_ringCompletion e rest s .live (by decide)

/-- R145: the end of the write counts in no block but that of the streams. -/
theorem writeEnded_live_streams :
    (writeEnded e rest s).live = { s.live with streams := (writeEnded e rest s).live.streams } := by
  rw [writeEnded_live]
  exact ringCompletion_live e _

theorem writeEnded_sequenceCounter :
    (writeEnded e rest s).contexts[e.stream].sequenceCounter =
      (ringCompletion e (writeLanded e rest s)).contexts[e.stream].sequenceCounter := by
  rw [writeEnded_context]

theorem writeEnded_windowFrames :
    (writeEnded e rest s).contexts[e.stream].windowFrames =
      (ringCompletion e (writeLanded e rest s)).contexts[e.stream].windowFrames := by
  rw [writeEnded_context]

end

section
variable {e : WriteEntry} {s : State}

/-- R48, R72: what the last write of a frame in a SEALING buffer makes of its ring, its context and ACCEPTED. -/
theorem writeEnded_completes (completes : CompletesFrame e s) (rest : List WriteEntry) :
    (writeEnded e rest s).rings =
        s.rings.set e.stream
          (s.rings[e.stream].set e.buffer
            { s.rings[e.stream][e.buffer] with
              state := .ready
              sequence := some (s.contexts[e.stream].sequenceCounter + 1#32)
              stamp := some s.reference.tickNumber }) ∧
      (writeEnded e rest s).contexts[e.stream].sequenceCounter = s.contexts[e.stream].sequenceCounter + 1#32 ∧
      (writeEnded e rest s).contexts[e.stream].windowFrames =
        (if s.contexts[e.stream].windowFrames < 15 then s.contexts[e.stream].windowFrames + 1
         else s.contexts[e.stream].windowFrames) ∧
      (writeEnded e rest s).live.streams =
        s.live.streams.set e.stream
          { s.live.streams[e.stream] with
            accepted := bump s.counterMode s.live.streams[e.stream].accepted 1 } := by
  have landed := writeLanded_context e rest s
  have counted := ringCompletion_completes (s := writeLanded e rest s) completes
  have context := completeFrame_context ⟨e.stream, e.buffer⟩ (writeLanded e rest s)
  dsimp only at context
  rw [writeEnded_rings, writeEnded_sequenceCounter, writeEnded_windowFrames, writeEnded_live, counted,
    completeFrame_rings, completeFrame_live, context, landed]
  exact ⟨rfl, rfl, rfl, rfl⟩

/-- R73: any other write leaves the rings, the counters and the stream's sequence and window. -/
theorem writeEnded_passes (passes : ¬ CompletesFrame e s) (rest : List WriteEntry) :
    (writeEnded e rest s).rings = s.rings ∧ (writeEnded e rest s).live.streams = s.live.streams ∧
      (writeEnded e rest s).contexts[e.stream].sequenceCounter = s.contexts[e.stream].sequenceCounter ∧
      (writeEnded e rest s).contexts[e.stream].windowFrames = s.contexts[e.stream].windowFrames := by
  have landed := writeLanded_context e rest s
  have uncounted := ringCompletion_passes (s := writeLanded e rest s) passes
  rw [writeEnded_rings, writeEnded_sequenceCounter, writeEnded_windowFrames, writeEnded_live, uncounted, landed]
  exact ⟨rfl, rfl, rfl, rfl⟩

end

/-! ## WRITE_COMPLETION (R133) -/

section
variable {s : State}

theorem writeInProgress_writing {e : WriteEntry} {rest : List WriteEntry} (access : s.arbiter.access = some .ingress)
    (queue : s.writeQueue = e :: rest) : writeInProgress s = some (e, rest) := by
  rw [writeInProgress, if_pos access, queue]

theorem writeInProgress_idle (idle : s.arbiter.access ≠ some .ingress ∨ s.writeQueue = []) : writeInProgress s = none := by
  by_cases access : s.arbiter.access = some .ingress
  · rw [writeInProgress, if_pos access, idle.resolve_left (not_not_intro access)]
  · exact if_neg access

theorem exec_writeCompletion_idle (running : s.resetHeld = none) (idle : writeInProgress s = none) :
    exec .writeCompletion s = .next s := by
  show execWriteCompletion s = _
  simp [execWriteCompletion, running, idle]

theorem exec_writeCompletion {e : WriteEntry} {rest : List WriteEntry} (running : s.resetHeld = none)
    (writing : writeInProgress s = some (e, rest)) :
    exec .writeCompletion s =
      if e.target < s.memory.blocks then .next (completeWrite e rest s) else .fault .noSuchBlock := by
  show execWriteCompletion s = _
  simp [execWriteCompletion, running, writing]

end

/-- Settles O25: the target's place, and the write ended field by field; the report that follows touches of these fields only the
counters of frame memory. -/
theorem writeCompleted : Obligations.WriteCompleted := by
  intro s running
  refine ⟨fun idle => exec_writeCompletion_idle running (writeInProgress_idle idle), fun e rest access queue => ?_⟩
  rw [exec_writeCompletion running (writeInProgress_writing access queue)]
  refine ⟨fun outside => if_neg (Nat.not_lt.mpr outside), fun inside => ⟨completeWrite e rest s, if_pos inside, ?_⟩⟩
  have kept := completeWrite_keeps_ended e rest s
  have landed := writeEnded_keeps_landed e rest s
  have rings : (completeWrite e rest s).rings = (writeEnded e rest s).rings := kept .rings (by decide)
  have contexts : (completeWrite e rest s).contexts = (writeEnded e rest s).contexts := kept .contexts (by decide)
  have streams : (completeWrite e rest s).live.streams = (writeEnded e rest s).live.streams :=
    judgeAccess_liveStreams _ _ _ _ _
  have context := writeEnded_context e rest s
  rw [rings, contexts, streams]
  refine ⟨(kept .writeQueue (by decide)).trans (landed .writeQueue (by decide)),
    (kept .arbiter (by decide)).trans (landed .arbiter (by decide)),
    completeWrite_memory e rest s, congrArg StreamContext.writesOutstanding context,
    fun completes => writeEnded_completes completes rest, fun passes => ?_, congrArg StreamContext.state context, ?_,
    fun passes => ?_, fun n other => writeEnded_context_other e rest s other,
    writeEnded e rest s, completeWrite_eq e rest s, writeEnded_keeps e rest s, writeEnded_live_streams e rest s, kept⟩
  · obtain ⟨ring, live, sequence, _⟩ := writeEnded_passes passes rest
    exact ⟨ring, live, sequence⟩
  · rw [context]
  · obtain ⟨_, _, _, window⟩ := writeEnded_passes passes rest
    exact window

end Sys2Proof.Machine
end

section
/-! PROOFS. The memory requests (R139 to R142, R180). -/

namespace Sys2Proof.Machine

/-! ## The path of a request (R179, R181) -/

section
variable {p : List Word} {rest : List (List Word)} {s : State} {code : BitVec 8} {body : RequestBody}

/-- R179: a request that is ready is carried out by its own rule. -/
theorem request_run (ready : RequestReady code p rest s) (body : RequestBody) :
    Host.Outcome.next (φ := Fault) (ρ := Refusal) (whileRunning s (runRequest code body)) =
      .next
        (answerRequest p (body (requestOperands p) (takeRequest rest s)).2
          (body (requestOperands p) (takeRequest rest s)).1) := by
  rw [whileRunning_running ready.1, runRequest_ready ready]

/-- R179, R181: a request that its own rule turns down with a reason leaves the state as it was. -/
theorem request_badArgument {reason : Nat} (ready : RequestReady code p rest s)
    (bad : body (requestOperands p) (takeRequest rest s) = (takeRequest rest s, .badArgument reason)) :
    Host.Outcome.next (φ := Fault) (ρ := Refusal) (whileRunning s (runRequest code body)) =
      .next (offerReply (badArgumentReply p reason) (takeRequest rest s)) := by
  rw [request_run ready, bad]
  rfl

/-- R180: a request that passes waits for memory with its tag, its code and its operands in hand. -/
theorem request_waitMemory {address count : Nat} {data : Option (List Word)} (ready : RequestReady code p rest s)
    (waits : body (requestOperands p) (takeRequest rest s) = (takeRequest rest s, .waitMemory address count data)) :
    Host.Outcome.next (φ := Fault) (ρ := Refusal) (whileRunning s (runRequest code body)) =
      .next
        { s with
          requestQueue := rest
          executor := .waitMemory { tag := requestTag p, code := code, address := address, count := count, data := data } } := by
  obtain ⟨_, _, _, _, names⟩ := id ready
  rw [request_run ready, waits, ← names]
  rfl

end

/-! ## READ_ARBITRATION (R142) -/

theorem headWriting_eq (q : List WriteEntry) :
    headWriting q = ((q.head?.map WriteEntry.state) == some .writing) := by
  cases q with
  | nil => rfl
  | cons e rest => simp [headWriting]

theorem exec_readArbitration {p : List Word} {rest : List (List Word)} {s : State} (ready : RequestReady 0x10#8 p rest s) :
    exec .readArbitration s = .next (offerReply (okReply p (arbitrationWords s)) (takeRequest rest s)) :=
  request_run ready bodyReadArbitration

/-! ## SET_ARBITRATION (R141) -/

theorem arbOrderOf_isSome (code : Nat) : (arbOrderOf code).isSome = decide (code ≤ 5) := by
  match code with
  | 0 | 1 | 2 | 3 | 4 | 5 => rfl
  | k + 6 =>
    rw [decide_eq_false (by omega)]
    rfl

theorem code_of_arbOrderOf {code : Nat} {order : ArbOrder} (h : arbOrderOf code = some order) : order.code = code := by
  match code with
  | 0 | 1 | 2 | 3 | 4 | 5 => cases h; rfl
  | _ + 6 => cases h

/-- Every check of SetArbitration, that of the order first (R141). -/
def setArbitrationChecks (ops : List Word) : List (Bool × Answer) :=
  ((arbOrderOf (operand ops 0)).isSome, .badArgument 1) :: arbitrationChecks ops

/-- R141: the checks with their bounds. -/
theorem setArbitrationChecks_eq (ops : List Word) :
    setArbitrationChecks ops =
      [(decide (operand ops 0 ≤ 5), .badArgument 1), (decide (1 ≤ operand ops 1 ∧ operand ops 1 ≤ 7), .badArgument 2),
       (decide (operand ops 2 ≤ 6), .badArgument 3), (decide (operand ops 2 < operand ops 1), .badArgument 4),
       (decide (64 ≤ operand ops 3 ∧ operand ops 3 ≤ 65535), .badArgument 5)] := by
  simp only [setArbitrationChecks, arbitrationChecks, arbOrderOf_isSome, within_eq_decide, Nat.zero_le, true_and]

/-- R141: the part with the four values in force, before the refresh timer is looked at. -/
def arbitrationInForce (order : ArbOrder) (ops : List Word) (s : State) : State :=
  modifyArbiter (arbitrationSet order ops) s

theorem bodySetArbitration_fails {ops : List Word} {reason : Nat} (s : State)
    (h : firstFailure (setArbitrationChecks ops) = some (.badArgument reason)) :
    bodySetArbitration ops s = (s, .badArgument reason) := by
  unfold bodySetArbitration
  cases named : arbOrderOf (operand ops 0) with
  | none =>
    have first : 1 = reason := by simpa [setArbitrationChecks, firstFailure, named] using h
    rw [first]
  | some order =>
    have later : firstFailure (arbitrationChecks ops) = some (.badArgument reason) := by
      simpa [setArbitrationChecks, firstFailure, named] using h
    exact checked_of_fails later _ _

theorem bodySetArbitration_good {ops : List Word} (h : firstFailure (setArbitrationChecks ops) = none) :
    ∃ order : ArbOrder, order.code = operand ops 0 ∧ ∀ s : State,
      bodySetArbitration ops s = (expireRefreshTimer (arbitrationInForce order ops s), .ok []) := by
  cases named : arbOrderOf (operand ops 0) with
  | none => simp [setArbitrationChecks, firstFailure, named] at h
  | some order =>
    have later : firstFailure (arbitrationChecks ops) = none := by
      simpa [setArbitrationChecks, firstFailure, named] using h
    refine ⟨order, code_of_arbOrderOf named, fun s => ?_⟩
    unfold bodySetArbitration
    rw [named]
    exact checked_of_good later _ _

/-- Settles O48: the words of the arbiter; and the first failing check, or the values in force and the refresh timer. -/
theorem arbitrationRequests : Obligations.ArbitrationRequests := by
  intro p rest s
  refine ⟨fun ready => ?_, fun ready => ?_⟩
  · rw [exec_readArbitration ready, arbitrationWords, headWriting_eq]
    cases s.arbiter.access with
    | none => rfl
    | some a => cases a <;> rfl
  · intro first
    have checks : firstFailure (setArbitrationChecks (requestOperands p)) = first := by
      rw [setArbitrationChecks_eq]
      rfl
    refine ⟨fun reason fails => request_badArgument ready (bodySetArbitration_fails _ (checks.trans fails)),
      fun good => ?_⟩
    obtain ⟨order, code, body⟩ := bodySetArbitration_good (checks.trans good)
    have run : exec .setArbitration s = _ := request_run ready bodySetArbitration
    rw [run, body]
    refine ⟨order, code, fun early => ?_, fun due room => ?_, fun due full => ?_⟩
    · rw [expireRefreshTimer_early (s := arbitrationInForce order (requestOperands p) (takeRequest rest s)) early]
      rfl
    · rw [expireRefreshTimer_owed (s := arbitrationInForce order (requestOperands p) (takeRequest rest s)) due room]
      rfl
    · rw [expireRefreshTimer_overdue (s := arbitrationInForce order (requestOperands p) (takeRequest rest s)) due full]
      rfl

/-! ## The checks on count and address (R139, R140) -/

section
variable {ops : List Word} {s : State}

theorem memoryChecks_count (bad : operand ops 1 = 0 ∨ 16 < operand ops 1) (more : List (Bool × Answer)) :
    firstFailure (memoryChecks ops s ++ more) = some (.badArgument 1) := by
  have fails : within 1 16 (operand ops 1) = false := by
    rw [within_eq_decide]
    exact decide_eq_false (by omega)
  simp [memoryChecks, firstFailure, fails]

theorem memoryChecks_address (low : 1 ≤ operand ops 1) (high : operand ops 1 ≤ 16)
    (outside : 64 * s.memory.blocks < operand ops 0 + operand ops 1) (more : List (Bool × Answer)) :
    firstFailure (memoryChecks ops s ++ more) = some (.badArgument 2) := by
  have count : within 1 16 (operand ops 1) = true := by
    rw [within_eq_decide]
    exact decide_eq_true ⟨low, high⟩
  simp [memoryChecks, firstFailure, count, outside]

theorem memoryChecks_good (low : 1 ≤ operand ops 1) (high : operand ops 1 ≤ 16)
    (inside : operand ops 0 + operand ops 1 ≤ 64 * s.memory.blocks) (more : List (Bool × Answer)) :
    firstFailure (memoryChecks ops s ++ more) = firstFailure more := by
  have count : within 1 16 (operand ops 1) = true := by
    rw [within_eq_decide]
    exact decide_eq_true ⟨low, high⟩
  simp [memoryChecks, firstFailure, count, inside]

end

/-! ## The regions in use (R34, R140) -/

theorem inRegion_iff (f : StreamFields) (block : Nat) :
    inRegion f block = true ↔ f.regionBase ≤ block ∧ block < f.regionBase + f.bufferSize * f.ringLength := by
  rw [inRegion, ← Bool.decide_and, decide_eq_true_eq]
  rfl

/-- R140: a count of at most 16 words falls in the block of its first word and in that of its last, and in no other. -/
theorem block_of_word {address count w : Nat} (short : count ≤ 16) (low : address ≤ w) (high : w < address + count) :
    w / 64 = address / 64 ∨ w / 64 = (address + count - 1) / 64 := by omega

/-- R140: a write is allowed unless one of its words falls in the region of a stream that is not OFF. -/
theorem writeAllowed_iff {address count : Nat} (nonzero : 1 ≤ count) (short : count ≤ 16) (s : State) :
    writeAllowed address count s = true ↔
      ∀ (n : Fin 32) (w : Nat), s.contexts[n].state ≠ .off → address ≤ w → w < address + count →
        ¬(s.entries[n].fields.regionBase ≤ w / 64 ∧
          w / 64 < s.entries[n].fields.regionBase + s.entries[n].fields.bufferSize * s.entries[n].fields.ringLength) := by
  have allowed : writeAllowed address count s = true ↔
      ∀ n : Fin 32, s.contexts[n].state ≠ .off →
        ¬ inRegion s.entries[n].fields (address / 64) = true ∧
          ¬ inRegion s.entries[n].fields ((address + count - 1) / 64) = true := by
    simp [writeAllowed, mem_indexes, fieldsOf, or_iff_not_imp_left]
  rw [allowed]
  constructor
  · intro apart n w inUse low high
    obtain ⟨first, last⟩ := apart n inUse
    rw [← inRegion_iff]
    rcases block_of_word short low high with same | same
    · rwa [same]
    · rwa [same]
  · intro apart n inUse
    rw [inRegion_iff, inRegion_iff]
    exact ⟨apart n address inUse le_rfl (by omega), apart n (address + count - 1) inUse (by omega) (by omega)⟩

/-! ## MEMORY_READ (R139) and MEMORY_WRITE (R140) -/

section
variable {p : List Word} {rest : List (List Word)} {s : State}

/-- R140: the checks of a write, that of the regions last. -/
def memoryWriteChecks (ops : List Word) (s : State) : List (Bool × Answer) :=
  memoryChecks ops s ++ [(writeAllowed (operand ops 0) (operand ops 1) s, .refused)]

theorem bodyMemoryWrite_eq (ops : List Word) (s : State) :
    bodyMemoryWrite ops s =
      checked (memoryWriteChecks ops s) s (s, .waitMemory (operand ops 0) (operand ops 1) (some (ops.drop 2))) := rfl

theorem memoryWriteChecks_region {ops : List Word} (low : 1 ≤ operand ops 1) (high : operand ops 1 ≤ 16)
    (inside : operand ops 0 + operand ops 1 ≤ 64 * s.memory.blocks) :
    firstFailure (memoryWriteChecks ops s) =
      if writeAllowed (operand ops 0) (operand ops 1) s then none else some .refused :=
  memoryChecks_good low high inside _

theorem exec_memoryRead_fails {reason : Nat} (ready : RequestReady 0x12#8 p rest s)
    (fails : firstFailure (memoryChecks (requestOperands p) s ++ []) = some (.badArgument reason)) :
    exec .memoryRead s = .next (offerReply (badArgumentReply p reason) (takeRequest rest s)) :=
  request_badArgument (body := bodyMemoryRead) ready (checked_of_fails fails _ _)

theorem exec_memoryWrite_fails {reason : Nat} (ready : RequestReady 0x13#8 p rest s)
    (fails : firstFailure (memoryWriteChecks (requestOperands p) s) = some (.badArgument reason)) :
    exec .memoryWrite s = .next (offerReply (badArgumentReply p reason) (takeRequest rest s)) :=
  request_badArgument ready ((bodyMemoryWrite_eq _ (takeRequest rest s)).trans (checked_of_fails fails _ _))

end

/-- Settles O49: each request by the count, the address and, for a write, the regions in use. -/
theorem memoryRequests : Obligations.MemoryRequests := by
  intro p rest s
  refine ⟨fun ready => ⟨fun bad => ?_, fun low high => ⟨fun outside => ?_, fun inside => ?_⟩⟩,
    fun ready => ⟨fun bad => ?_, fun low high => ⟨fun outside => ?_, fun inside => ⟨fun meets => ?_, fun apart => ?_⟩⟩⟩⟩
  · exact exec_memoryRead_fails ready (memoryChecks_count bad _)
  · exact exec_memoryRead_fails ready (memoryChecks_address low high outside _)
  · exact request_waitMemory (body := bodyMemoryRead) ready (checked_of_good (memoryChecks_good low high inside []) _ _)
  · exact exec_memoryWrite_fails ready (memoryChecks_count bad _)
  · exact exec_memoryWrite_fails ready (memoryChecks_address low high outside _)
  · have refused : firstFailure (memoryWriteChecks (requestOperands p) s) = some .refused := by
      have forbidden : ¬ writeAllowed (argument p 0) (argument p 1) s = true := by
        obtain ⟨n, w, inUse, first, last, region⟩ := meets
        exact fun allowed => (writeAllowed_iff low high s).mp allowed n w inUse first last region
      rw [memoryWriteChecks_region low high inside]
      exact if_neg forbidden
    have body : bodyMemoryWrite (requestOperands p) (takeRequest rest s) = (takeRequest rest s, .refused) :=
      (bodyMemoryWrite_eq _ _).trans (checked_of_fails refused _ _)
    have run : exec .memoryWrite s = _ := request_run ready bodyMemoryWrite
    rw [run, body]
    rfl
  · have passes : firstFailure (memoryWriteChecks (requestOperands p) s) = none := by
      rw [memoryWriteChecks_region low high inside]
      exact if_pos ((writeAllowed_iff low high s).mpr apart)
    have data : (requestOperands p).drop 2 = p.drop 4 := List.drop_drop
    rw [← data]
    exact request_waitMemory ready ((bodyMemoryWrite_eq _ (takeRequest rest s)).trans (checked_of_good passes _ _))

end Sys2Proof.Machine
end

section
/-! PROOFS. The counters: an increment in each mode (R146), and the requests on counters (R147, R150, R152). -/

namespace Sys2Proof.Machine

/-! ## An increment (R146) -/

section
variable {w : Nat} {v : BitVec w} {n : Nat}

theorem bump_wrap_toNat (v : BitVec w) (n : Nat) : (bump .wrap v n).toNat = (v.toNat + n) % 2 ^ w := by
  show (v + BitVec.ofNat w n).toNat = _
  rw [BitVec.toNat_add, BitVec.toNat_ofNat, Nat.add_mod_mod]

theorem bump_saturate_fits (fits : v.toNat + n < 2 ^ w) : (bump .saturate v n).toNat = v.toNat + n := by
  have sum : bump .saturate v n = BitVec.ofNat w (v.toNat + n) := if_pos fits
  rw [sum, BitVec.toNat_ofNat, Nat.mod_eq_of_lt fits]

theorem bump_saturate_full (exceeds : 2 ^ w ≤ v.toNat + n) : (bump .saturate v n).toNat = 2 ^ w - 1 := by
  have top : bump .saturate v n = BitVec.allOnes w := if_neg (Nat.not_lt.mpr exceeds)
  rw [top, BitVec.toNat_allOnes]

end

/-- Settles O8: the sum modulo 2^w in WRAP; in SATURATE the sum where it fits, else all ones. -/
theorem incrementFollowsMode : Obligations.IncrementFollowsMode := by
  intro w v n
  have width : 0 < 2 ^ w := Nat.two_pow_pos w
  exact ⟨bump_wrap_toNat v n, fun fits => bump_saturate_fits (by omega), fun exceeds => bump_saturate_full (by omega)⟩

/-! ## Codes of flags and counter modes (12.5) -/

theorem flagOf_eq_none {code : Nat} (high : 1 < code) : flagOf code = none := by
  rw [← Option.not_isSome_iff_eq_none, flagOf_isSome, decide_eq_true_eq]
  exact Nat.not_le.mpr high

theorem counterModeOf_eq_none {code : Nat} (high : 1 < code) : counterModeOf code = none := by
  match code with
  | 0 | 1 => omega
  | _ + 2 => rfl

theorem counterModeOf_of_le {code : Nat} (low : code ≤ 1) :
    counterModeOf code = some (if code = 1 then .saturate else .wrap) := by
  match code with
  | 0 | 1 => rfl
  | _ + 2 => omega

/-! ## SNAPSHOT_COUNTERS (R150) -/

theorem mapTable_eq_map {α β : Type} {n : Nat} (f : α → β) (v : Vector α n) : mapTable f v = v.map f := by
  apply Vector.ext
  intro i hi
  rw [Vector.getElem_map]
  exact mapTable_get f v ⟨i, hi⟩

/-- R148, R150: the interval extremes as copied are those of the live contexts. -/
theorem snapshotTaken_extremes (clear : Bool) (s : State) (n : Fin 32) :
    (snapshotTaken clear s).extremes[n] = { minimum := s.contexts[n].intervalMin, maximum := s.contexts[n].intervalMax } :=
  mapTable_get extremesOf s.contexts n

/-- R150: with the flag set the live counters become 0 and the live extremes none. -/
theorem takeSnapshot_clearing (s : State) :
    takeSnapshot true s =
      { s with
        snapshot := snapshotTaken true s
        live := State.zeroCounters
        contexts := s.contexts.map withoutExtremes } := by
  rw [← mapTable_eq_map]
  rfl

section
variable {ops : List Word} (s : State)

theorem bodySnapshotCounters_badFlag (high : 1 < operand ops 0) : bodySnapshotCounters ops s = (s, .badArgument 1) := by
  rw [bodySnapshotCounters, flagOf_eq_none high]

/-- R150: the reply carries the tick number of the snapshot. -/
theorem bodySnapshotCounters_takes {clear : Bool} (named : flagOf (operand ops 0) = some clear) :
    bodySnapshotCounters ops s = (takeSnapshot clear s, .ok [s.reference.tickNumber]) := by
  rw [bodySnapshotCounters, named]
  simp only [field, BitVec.setWidth_eq]

end

section
variable {p : List Word} {rest : List (List Word)} {s : State}

theorem exec_snapshotCounters {clear : Bool} (ready : RequestReady 0x14#8 p rest s)
    (named : flagOf (argument p 0) = some clear) :
    exec .snapshotCounters s = .next
      (offerReply (okReply p [s.reference.tickNumber]) (takeSnapshot clear (takeRequest rest s))) := by
  have run : exec .snapshotCounters s = _ := request_run ready bodySnapshotCounters
  rw [run, bodySnapshotCounters_takes _ named]
  rfl

end

/-! ## READ_COUNTERS (R152) -/

theorem optField_word (o : Option Word) : optField o = o.getD 0 := BitVec.setWidth_eq _

/-- R152, 12.4: the results of a group without interval extremes, the tick a whole word. -/
theorem plainCounterWords_eq (b : SnapshotBank) (counters : List Word) :
    plainCounterWords b counters =
      presence [false, false, b.tick.isSome] :: counters ++ [b.tick.getD 0, flag b.cleared] := by
  rw [plainCounterWords, optField_word]
  rfl

/-- R152, 12.4: the results of a stream, the tick a whole word. -/
theorem streamGroupWords_eq (b : SnapshotBank) (n : Fin 32) :
    streamGroupWords b n =
      presence [b.extremes[n].minimum.isSome, b.extremes[n].maximum.isSome, b.tick.isSome] ::
        streamCounterWords b.counters.streams[n] ++
        [optNum b.extremes[n].minimum, optNum b.extremes[n].maximum, b.tick.getD 0, flag b.cleared] := by
  rw [streamGroupWords, optField_word]
  rfl

theorem readIndexed_inside {n index : Nat} {i : Fin n} (inside : index = i.val) (words : Fin n → List Word) :
    readIndexed n index words = .ok (words i) := by
  rw [readIndexed, indexOf_eq_some inside]

theorem readIndexed_outside {n index : Nat} (outside : n ≤ index) (words : Fin n → List Word) :
    readIndexed n index words = .badArgument 2 := by
  rw [readIndexed, indexOf_eq_none outside]

/-- R152: how many owners each group has. -/
def groupSizes : List Nat := [32, 16, 4, 4, 1, 1]

section
variable (b : SnapshotBank) {group index : Nat}

theorem counterAnswer_badGroup (unknown : 5 < group) : counterAnswer b group index = .badArgument 1 := by
  match group with
  | 0 | 1 | 2 | 3 | 4 | 5 => omega
  | _ + 6 => rfl

theorem counterAnswer_badIndex (known : group ≤ 5) (outside : groupSizes.getD group 0 ≤ index) :
    counterAnswer b group index = .badArgument 2 := by
  match group with
  | 0 | 1 | 2 | 3 | 4 | 5 => exact readIndexed_outside outside _
  | _ + 6 => omega

theorem counterAnswer_stream {n : Fin 32} (inside : index = n.val) :
    counterAnswer b 0 index = .ok (streamGroupWords b n) := readIndexed_inside inside _

theorem counterAnswer_slot {k : Fin 16} (inside : index = k.val) :
    counterAnswer b 1 index = .ok (plainCounterWords b (slotCounterWords b.counters.slots[k])) :=
  readIndexed_inside inside _

theorem counterAnswer_ingress {q : Fin 4} (inside : index = q.val) :
    counterAnswer b 2 index = .ok (plainCounterWords b (ingressCounterWords b.counters.ingress[q])) :=
  readIndexed_inside inside _

theorem counterAnswer_egress {q : Fin 4} (inside : index = q.val) :
    counterAnswer b 3 index = .ok (plainCounterWords b (egressCounterWords b.counters.egress[q])) :=
  readIndexed_inside inside _

theorem counterAnswer_reference :
    counterAnswer b 4 0 =
      .ok (plainCounterWords b [b.counters.reference.strayEdges, b.counters.reference.flywheelTicks]) := rfl

theorem counterAnswer_memory :
    counterAnswer b 5 0 =
      .ok (plainCounterWords b [b.counters.memory.corrected, b.counters.memory.uncorrectable]) := rfl

end

section
variable {p : List Word} {rest : List (List Word)} {s : State}

/-- R152: the request changes nothing beside the path of a request. -/
theorem exec_readCounters (ready : RequestReady 0x15#8 p rest s) :
    exec .readCounters s = .next
      (answerRequest p (counterAnswer s.snapshot (argument p 0) (argument p 1)) (takeRequest rest s)) :=
  request_run ready bodyReadCounters

/-- R152: a group and an index that the bank holds are answered with their words. -/
theorem exec_readCounters_words {group index : Nat} {words : List Word} (ready : RequestReady 0x15#8 p rest s)
    (owner : argument p 0 = group) (place : argument p 1 = index)
    (answer : counterAnswer s.snapshot group index = .ok words) :
    exec .readCounters s = .next (offerReply (okReply p words) (takeRequest rest s)) := by
  rw [exec_readCounters ready, owner, place, answer, answerRequest_ok]

/-- R152: a group without interval extremes. -/
theorem exec_readCounters_plain {group index : Nat} {counters : List Word} (ready : RequestReady 0x15#8 p rest s)
    (owner : argument p 0 = group) (place : argument p 1 = index)
    (answer : counterAnswer s.snapshot group index = .ok (plainCounterWords s.snapshot counters)) :
    exec .readCounters s = .next
      (offerReply
        (okReply p
          (presence [false, false, s.snapshot.tick.isSome] :: counters ++
            [s.snapshot.tick.getD 0, flag s.snapshot.cleared]))
        (takeRequest rest s)) := by
  rw [exec_readCounters_words ready owner place answer, plainCounterWords_eq]

/-- R152: an answer BAD_ARGUMENT. -/
theorem exec_readCounters_bad {reason : Nat} (ready : RequestReady 0x15#8 p rest s)
    (answer : counterAnswer s.snapshot (argument p 0) (argument p 1) = .badArgument reason) :
    exec .readCounters s = .next (offerReply (badArgumentReply p reason) (takeRequest rest s)) := by
  rw [exec_readCounters ready, answer]
  rfl

end

/-! ## SET_COUNTER_MODE (R147) -/

section
variable {ops : List Word} (s : State)

theorem bodySetCounterMode_badMode (high : 1 < operand ops 0) : bodySetCounterMode ops s = (s, .badArgument 1) := by
  rw [bodySetCounterMode, counterModeOf_eq_none high]

theorem bodySetCounterMode_sets (low : operand ops 0 ≤ 1) :
    bodySetCounterMode ops s =
      ({ s with counterMode := if operand ops 0 = 1 then .saturate else .wrap }, .ok []) := by
  rw [bodySetCounterMode, counterModeOf_of_le low]

end

theorem exec_setCounterMode {p : List Word} {rest : List (List Word)} {s : State} (ready : RequestReady 0x16#8 p rest s)
    (low : argument p 0 ≤ 1) :
    exec .setCounterMode s = .next
      (offerReply (okReply p [])
        { takeRequest rest s with counterMode := if argument p 0 = 1 then .saturate else .wrap }) := by
  have run : exec .setCounterMode s = _ := request_run ready bodySetCounterMode
  rw [run, bodySetCounterMode_sets _ low]
  rfl

/-- Settles O50: the snapshot by its flag and what it copies, the read by group and index, and the mode by its code. -/
theorem counterRequests : Obligations.CounterRequests := by
  intro p rest s
  refine ⟨fun ready => ⟨fun high => ?badFlag, fun keep => ?copies, fun clear => ?clears⟩,
    fun clear => ⟨rfl, rfl, rfl, snapshotTaken_extremes clear s⟩,
    fun ready => ⟨fun unknown => ?badGroup, fun known outside => ?badIndex, fun n group index => ?stream,
      fun k group index => ?slot, fun q group index => ?ingress, fun q group index => ?egress,
      fun group index => ?reference, fun group index => ?memory⟩,
    fun ready => ⟨fun high => ?badMode, fun low => exec_setCounterMode ready low⟩⟩
  case badFlag => exact request_badArgument ready (bodySnapshotCounters_badFlag _ high)
  case copies => exact exec_snapshotCounters (clear := false) ready (congrArg flagOf keep)
  case clears =>
    rw [exec_snapshotCounters (clear := true) ready (congrArg flagOf clear), takeSnapshot_clearing]
    rfl
  case badGroup => exact exec_readCounters_bad ready (counterAnswer_badGroup _ unknown)
  case badIndex => exact exec_readCounters_bad ready (counterAnswer_badIndex _ known outside)
  case stream =>
    rw [exec_readCounters_words ready group index (counterAnswer_stream _ rfl), streamGroupWords_eq]
    rfl
  case slot => exact exec_readCounters_plain ready group index (counterAnswer_slot _ rfl)
  case ingress => exact exec_readCounters_plain ready group index (counterAnswer_ingress _ rfl)
  case egress => exact exec_readCounters_plain ready group index (counterAnswer_egress _ rfl)
  case reference => exact exec_readCounters_plain ready group index (counterAnswer_reference _)
  case memory => exact exec_readCounters_plain ready group index (counterAnswer_memory _)
  case badMode => exact request_badArgument ready (bodySetCounterMode_badMode _ high)

end Sys2Proof.Machine
end

section
/-! PROOFS. The pattern generator (R154, R157 to R160): the PN words, the burst offered, what its taking leaves, and the two rows. -/

namespace Sys2Proof.Machine

/-! ## The PN register and its words (R154) -/

/-- R154: a PN word after `n` of its 32 steps, with the register after them. -/
def pnSteps (n : Nat) (r : BitVec 23) : Word × BitVec 23 :=
  (List.range n).foldl
    (fun acc _ => ((acc.1 <<< 1) ||| (if (pnStep acc.2).getLsbD 0 then 1#32 else 0#32), pnStep acc.2)) (0#32, r)

theorem pnWord_eq_pnSteps (r : BitVec 23) : pnWord r = pnSteps 32 r := rfl

theorem pnSteps_succ (n : Nat) (r : BitVec 23) :
    pnSteps (n + 1) r =
      (((pnSteps n r).1 <<< 1) ||| (if (pnStep (pnSteps n r).2).getLsbD 0 then 1#32 else 0#32),
        pnStep (pnSteps n r).2) := by
  rw [pnSteps, List.range_succ, List.foldl_append]
  rfl

theorem pnSteps_register (n : Nat) (r : BitVec 23) : (pnSteps n r).2 = pnStep^[n] r := by
  induction n with
  | zero => rfl
  | succ n ih => rw [pnSteps_succ, ih, Function.iterate_succ_apply']

theorem shiftedIn_first (w : Word) (b : Bool) : ((w <<< 1) ||| (if b then 1#32 else 0#32)).getLsbD 0 = b := by
  cases b <;> simp

theorem shiftedIn_later (w : Word) (b : Bool) {k : Nat} (h : k + 1 < 32) :
    ((w <<< 1) ||| (if b then 1#32 else 0#32)).getLsbD (k + 1) = w.getLsbD k := by
  cases b <;> simp [h, -BitVec.getLsbD_eq_getElem]

/-- R154: the bits of a PN word stand in the order in which the steps put them out, the last one in bit 0. -/
theorem pnSteps_bit {n i : Nat} (short : n ≤ 32) (put : i < n) (r : BitVec 23) :
    (pnSteps n r).1.getLsbD (n - 1 - i) = (pnStep^[i + 1] r).getLsbD 0 := by
  induction n with
  | zero => omega
  | succ n ih =>
    rw [pnSteps_succ]
    by_cases last : i = n
    · subst last
      have place : i + 1 - 1 - i = 0 := by omega
      rw [place, shiftedIn_first, pnSteps_register, Function.iterate_succ_apply']
    · have place : n + 1 - 1 - i = n - 1 - i + 1 := by omega
      rw [place, shiftedIn_later _ _ (by omega)]
      exact ih (by omega) (by omega)

/-- R154, R158: the register after some PN words. -/
theorem pnWords_register (count : Nat) (r : BitVec 23) : (pnWords count r).2 = (fun r => (pnWord r).2)^[count] r := by
  induction count generalizing r with
  | zero => rfl
  | succ count ih => exact ih (pnWord r).2

/-- R154, R158: each PN word is drawn from the register that the words before it leave. -/
theorem pnWords_words (count : Nat) (r : BitVec 23) :
    (pnWords count r).1 = (List.range count).map fun i => (pnWord ((fun r => (pnWord r).2)^[i] r)).1 := by
  induction count generalizing r with
  | zero => rfl
  | succ count ih =>
    rw [List.range_succ_eq_map, List.map_cons, List.map_map]
    exact congrArg ((pnWord r).1 :: ·) (ih (pnWord r).2)

/-! ## The burst offered (R158) -/

theorem drawnWords_count {g : Generator} (count : g.pattern = .count) :
    drawnWords g = (List.range 64).map fun i => g.countValue + BitVec.ofNat 32 i := by
  rw [drawnWords, count]
  rfl

theorem drawnWords_pn {g : Generator} (pn : g.pattern = .pn) :
    drawnWords g = (List.range 64).map fun i => (pnWord ((fun r => (pnWord r).2)^[i] g.pnRegister)).1 := by
  rw [drawnWords, pn]
  exact pnWords_words 64 g.pnRegister

theorem drawnWords_fill {g : Generator} (fill : g.pattern = .fill) : drawnWords g = List.replicate 64 g.fillWord := by
  rw [drawnWords, fill]

/-- R158: drawing 64 words advances the series of the pattern alone. -/
theorem drawn_eq (g : Generator) :
    drawn g =
      { g with
        countValue := if g.pattern = .count then g.countValue + 64#32 else g.countValue
        pnRegister := if g.pattern = .pn then (fun r => (pnWord r).2)^[64] g.pnRegister else g.pnRegister } := by
  rw [← pnWords_register]
  obtain ⟨_, _, pattern⟩ := g
  cases pattern with
  | count => rfl
  | pn => rfl
  | fill => rfl

/-- R158: the offer changes the waiting burst and the series, and nothing else. -/
theorem offerBurst_eq (n : Fin 32) (s : State) :
    offerBurst n s =
      { s with
        generator :=
          { s.generator with
            waiting := some (generatedBurst n s.generator)
            countValue :=
              if s.generator.pattern = .count then s.generator.countValue + 64#32 else s.generator.countValue
            pnRegister :=
              if s.generator.pattern = .pn then (fun r => (pnWord r).2)^[64] s.generator.pnRegister
              else s.generator.pnRegister } } := by
  rw [offerBurst, drawn_eq]

/-! ## What a taking leaves (R158, R159) -/

theorem afterTaking_offers {n : Fin 32} {s : State} (more : s.generator.burstsTaken + 1 < s.generator.frameLength) :
    afterTaking n s =
      offerBurst n { s with generator := { s.generator with burstsTaken := s.generator.burstsTaken + 1 } } :=
  if_neg (Nat.not_le.mpr more)

/-- R158, R159: the generator at the end of a frame, before it is judged whether the run ends with it. -/
def frameEnded (g : Generator) : Generator :=
  { g with
    burstsTaken := g.burstsTaken + 1, inProgress := false, waiting := none, framesDone := g.framesDone + 1#32 }

theorem afterTaking_lastFrame {n : Fin 32} {s : State} (last : s.generator.frameLength ≤ s.generator.burstsTaken + 1)
    (counted : s.generator.frameCount ≠ 0)
    (done : (s.generator.framesDone + 1#32).toNat = s.generator.frameCount) :
    afterTaking n s =
      raiseGeneratorTest 0 { s with generator := { frameEnded s.generator with state := .stopped } } :=
  (if_pos last).trans (if_pos ⟨counted, done⟩)

/-- R159: with frames still to come, only a stop that was requested ends the run. -/
theorem afterTaking_moreFrames {n : Fin 32} {s : State} (last : s.generator.frameLength ≤ s.generator.burstsTaken + 1)
    (more : s.generator.frameCount = 0 ∨ (s.generator.framesDone + 1#32).toNat ≠ s.generator.frameCount) :
    afterTaking n s =
      { s with
        generator :=
          { frameEnded s.generator with
            state := if s.generator.stopRequested then .stopped else s.generator.state } } := by
  have running : ¬(s.generator.frameCount ≠ 0 ∧ (s.generator.framesDone + 1#32).toNat = s.generator.frameCount) := by
    tauto
  refine ((if_pos last).trans (if_neg running)).trans ?_
  by_cases requested : s.generator.stopRequested = true
  · rw [if_pos requested, if_pos requested]
    rfl
  · rw [if_neg requested, if_neg requested]
    rfl

theorem raiseGeneratorTest_of_stream {n : Fin 32} {s : State} (cause : Nat) (feeds : s.generator.stream = some n) :
    raiseGeneratorTest cause s = raise .test n.val cause s := by
  rw [raiseGeneratorTest, feeds]

theorem raiseGeneratorTest_generator (cause : Nat) (s : State) :
    (raiseGeneratorTest cause s).generator = s.generator :=
  raiseGeneratorTest_keeps cause s .generator (by decide)

/-! ## GENERATOR_BURST_TAKEN (R158) -/

theorem takeGenerated_idle {s : State} (idle : s.generator.waiting = none ∨ 16 ≤ s.writeQueue.length) :
    takeGenerated s = s := by
  unfold takeGenerated
  split
  · rename_i waits _
    rcases idle with none | full
    · rw [none] at waits
      cases waits
    · rw [writeQueueHasRoom_of_le full, if_neg Bool.false_ne_true]
  · rfl

theorem takeGenerated_takes {n : Fin 32} {b : Burst} {s : State} (feeds : s.generator.stream = some n)
    (waits : s.generator.waiting = some b) (room : s.writeQueue.length < 16) :
    takeGenerated s = afterTaking n (acceptBurst n b s) := by
  simp only [takeGenerated, waits, feeds, writeQueueHasRoom_of_lt room, if_true]

theorem exec_generatorBurstTaken {s : State} (running : s.resetHeld = none) :
    exec .generatorBurstTaken s = .next (takeGenerated s) :=
  congrArg Host.Outcome.next (whileRunning_running running takeGenerated)

/-! ## GENERATOR_FRAME_START (R157) -/

theorem exec_generatorFrameStart {s : State} (running : s.resetHeld = none) :
    exec .generatorFrameStart s = .next (startGeneratedFrame s) :=
  congrArg Host.Outcome.next (whileRunning_running running startGeneratedFrame)

theorem startGeneratedFrame_notDue {s : State}
    (idle : s.generator.state ≠ .running ∨ s.generator.frameStartDue = false) : startGeneratedFrame s = s := by
  refine if_neg fun due => ?_
  rcases idle with stopped | early
  · exact stopped due.1
  · exact Bool.false_ne_true (early.symm.trans due.2)

section
variable {n : Fin 32} {s : State}

theorem startGeneratedFrame_offers (feeds : s.generator.stream = some n) (runs : s.generator.state = .running)
    (due : s.generator.frameStartDue = true) (good : s.entries[n].parityGood = true) :
    startGeneratedFrame s = takeGenerated (offerBurst n { s with generator := frameStarted s.generator }) := by
  rw [startGeneratedFrame, if_pos ⟨runs, due⟩, feeds]
  exact if_pos good

theorem startGeneratedFrame_badParity (feeds : s.generator.stream = some n) (runs : s.generator.state = .running)
    (due : s.generator.frameStartDue = true) (bad : s.entries[n].parityGood = false) :
    startGeneratedFrame s =
      entryParityFailure n { s with generator := { s.generator with frameStartDue := false } } := by
  rw [startGeneratedFrame, if_pos ⟨runs, due⟩, feeds]
  exact if_neg (by rw [bad]; decide)

end

/-- Settles O37: the two rows, due or not; the burst offered; what its taking leaves; and the PN words step by step. -/
theorem generatedFrames : Obligations.GeneratedFrames := by
  refine ⟨fun n s running feeds => ?rows, fun n s => ?frame, fun _ => rfl, fun r => ?word, fun s => drawnWords_pn⟩
  case rows =>
    rw [exec_generatorFrameStart running, exec_generatorBurstTaken running]
    refine ⟨fun idle => congrArg _ (startGeneratedFrame_notDue idle), fun runs due => ⟨fun good => ?_, fun bad => ?_⟩,
      fun idle => congrArg _ (takeGenerated_idle idle), fun b waits room => ?_, takeGenerated_idle⟩
    · rw [startGeneratedFrame_offers feeds runs due good]
      rfl
    · rw [startGeneratedFrame_badParity feeds runs due bad]
    · have taken := takeGenerated_takes feeds waits room
      exact ⟨congrArg _ taken, taken⟩
  case frame =>
    refine ⟨offerBurst_eq n s, drawnWords_count, drawnWords_fill, afterTaking_offers, fun last => ?_⟩
    refine ⟨fun counted done => ?_, afterTaking_moreFrames last⟩
    rw [afterTaking_lastFrame last counted done]
    exact ⟨raiseGeneratorTest_generator 0 _, fun feeds => raiseGeneratorTest_of_stream 0 feeds⟩
  case word =>
    rw [pnWord_eq_pnSteps]
    exact ⟨pnSteps_register 32 r, fun i put => pnSteps_bit le_rfl put r⟩

end Sys2Proof.Machine
end

section
/-! PROOFS. The pattern checker (R154, R161 to R165): its predictions, the judgement of a word, and what its taps pass. -/

namespace Sys2Proof.Machine

/-! ## The word predicted, and the expectation (R154, R163) -/

/-- R163: what a word seeds, by the pattern. -/
theorem seeded_eq (c : Checker) (w : Word) :
    seeded c w =
      { c with
        expectation :=
          match c.pattern with
          | .count => some (.count (w + 1#32))
          | .pn => some (.pn (w.extractLsb' 0 23))
          | .fill => c.expectation } := by
  obtain ⟨_, _, _, pattern⟩ := c
  cases pattern with
  | count => rfl
  | pn => rfl
  | fill => rfl

/-- R163: how the expectation advances, by what is expected. -/
theorem advanced_eq (c : Checker) :
    advanced c =
      { c with
        expectation :=
          match c.expectation with
          | some (.count v) => some (.count (v + 1#32))
          | some (.pn r) => some (.pn (pnWord r).2)
          | none => none } := by
  obtain ⟨_, _, _, _, _, _, expectation⟩ := c
  match expectation with
  | none => rfl
  | some (.count _) => rfl
  | some (.pn _) => rfl

/-- R154, R163: the word that an expectation expects. -/
def expectedWord : Expectation → Word
  | .count next => next
  | .pn register => (pnWord register).1

section
variable {c : Checker} {w v : Word}

theorem seeded_count (count : c.pattern = .count) : seeded c w = { c with expectation := some (.count (w + 1#32)) } := by
  rw [seeded, count]

theorem advanced_count (expected : c.expectation = some (.count v)) :
    advanced c = { c with expectation := some (.count (v + 1#32)) } := by
  rw [advanced, expected]

theorem predicted_fill (fill : c.pattern = .fill) : predicted c = some c.fillWord := by
  rw [predicted, fill]

/-- R154, R163: for COUNT and PN the expectation alone predicts. -/
theorem predicted_of_series (series : c.pattern ≠ .fill) : predicted c = c.expectation.map expectedWord := by
  unfold predicted
  cases pattern : c.pattern with
  | fill => exact absurd pattern series
  | count | pn =>
    match c.expectation with
    | none => rfl
    | some (.count _) => rfl
    | some (.pn _) => rfl

theorem predicted_absent (series : c.pattern ≠ .fill) (absent : c.expectation = none) : predicted c = none := by
  rw [predicted_of_series series, absent]
  rfl

theorem predicted_count (series : c.pattern ≠ .fill) (expected : c.expectation = some (.count v)) :
    predicted c = some v := by
  rw [predicted_of_series series, expected]
  rfl

theorem predicted_pn {r : BitVec 23} (series : c.pattern ≠ .fill) (expected : c.expectation = some (.pn r)) :
    predicted c = some (pnWord r).1 := by
  rw [predicted_of_series series, expected]
  rfl

theorem series_of_count (count : c.pattern = .count) : c.pattern ≠ .fill := by
  rw [count]
  decide

end

/-! ## A word judged (R163) -/

section
variable {mode : CounterMode} {first : Bool} {c : Checker} {w : Word}

theorem judgeWord_idle (idle : c.state = .idle) : judgeWord mode first c w = (c, none) := by
  rw [judgeWord, idle]

theorem judgeWord_seeking (seeking : c.state = .seeking) (judged : (first && c.restartAtFrame) = false) :
    judgeWord mode first c w = judgeSeeking c w := by
  simp only [judgeWord, seeking, judged, Bool.false_eq_true, if_false]

theorem judgeWord_synced (synced : c.state = .synced) (judged : (first && c.restartAtFrame) = false) :
    judgeWord mode first c w = judgeSynced mode c w := by
  simp only [judgeWord, synced, judged, Bool.false_eq_true, if_false]

/-- R163: with restart at frame the first word of a frame reseeds a checker in SEEKING. -/
theorem judgeWord_reseeds_seeking (seeking : c.state = .seeking) (restarts : c.restartAtFrame = true) :
    judgeWord mode true c w = ({ seeded c w with matchRun := 0 }, none) := by
  simp only [judgeWord, reseed, seeking, restarts, Bool.and_self, if_true]

/-- R163: with restart at frame the first word of a frame reseeds a SYNCED checker and is not counted. -/
theorem judgeWord_reseeds_synced (synced : c.state = .synced) (restarts : c.restartAtFrame = true) :
    judgeWord mode true c w = (seeded c w, none) := by
  simp only [judgeWord, reseed, synced, restarts, Bool.and_self, if_true]

theorem judgeSeeking_mismatch (wrong : predicted c ≠ some w) :
    judgeSeeking c w = ({ seeded c w with matchRun := 0 }, none) := by
  unfold judgeSeeking
  split
  · rfl
  · rename_i p predicts
    exact if_neg fun same => wrong (by rw [predicts, same])

theorem judgeSeeking_match (right : predicted c = some w) (short : c.matchRun ≠ 15) :
    judgeSeeking c w = ({ advanced c with matchRun := c.matchRun + 1 }, none) := by
  rw [judgeSeeking, right]
  exact (if_pos rfl).trans (if_neg (by omega))

theorem judgeSeeking_sixteenth (right : predicted c = some w) (run : c.matchRun = 15) :
    judgeSeeking c w = ({ advanced c with matchRun := 16, state := .synced, mismatchRun := 0 }, some 2) := by
  rw [judgeSeeking, right]
  exact (if_pos rfl).trans (if_pos (by rw [run]))

/-- R163: the count of words plays no part in the advance. -/
theorem advanced_counted (c : Checker) (words : BitVec 32) :
    advanced { c with words := words } = { advanced c with words := words } := by
  rw [advanced_eq, advanced_eq]

theorem judgeSynced_match (right : predicted c = some w) :
    judgeSynced mode c w = ({ advanced c with words := bump mode c.words 1, mismatchRun := 0 }, none) := by
  rw [judgeSynced, advanced_counted]
  exact if_pos right.symm

theorem judgeSynced_mismatch (wrong : predicted c ≠ some w) (short : c.mismatchRun ≠ 7) :
    judgeSynced mode c w =
      ({ advanced c with
          words := bump mode c.words 1, errors := bump mode c.errors 1, mismatchRun := c.mismatchRun + 1 }, none) := by
  rw [judgeSynced, advanced_counted]
  exact (if_neg (Ne.symm wrong)).trans (if_neg (by omega))

/-- R163: the eighth mismatch in a row takes the expectation away, so that its advance does not show. -/
theorem judgeSynced_eighth (wrong : predicted c ≠ some w) (run : c.mismatchRun = 7) :
    judgeSynced mode c w =
      ({ c with
          words := bump mode c.words 1, errors := bump mode c.errors 1, mismatchRun := 8, state := .seeking,
          expectation := none, matchRun := 0 }, some 3) := by
  rw [judgeSynced, advanced_counted, advanced_eq]
  refine ((if_neg (Ne.symm wrong)).trans (if_pos (by rw [run]))).trans ?_
  rw [run]

/-! ### The tap of a judgement (R161) -/

theorem seeded_tapIndex (c : Checker) (w : Word) : (seeded c w).tapIndex = c.tapIndex := by rw [seeded_eq]

theorem advanced_tapIndex (c : Checker) : (advanced c).tapIndex = c.tapIndex := by rw [advanced_eq]

theorem judgeSeeking_tapIndex (c : Checker) (w : Word) : (judgeSeeking c w).1.tapIndex = c.tapIndex := by
  by_cases right : predicted c = some w
  · by_cases run : c.matchRun = 15
    · rw [judgeSeeking_sixteenth right run]
      exact advanced_tapIndex c
    · rw [judgeSeeking_match right run]
      exact advanced_tapIndex c
  · rw [judgeSeeking_mismatch right]
    exact seeded_tapIndex c w

theorem judgeSynced_tapIndex (mode : CounterMode) (c : Checker) (w : Word) :
    (judgeSynced mode c w).1.tapIndex = c.tapIndex := by
  by_cases right : predicted c = some w
  · rw [judgeSynced_match right]
    exact advanced_tapIndex c
  · by_cases run : c.mismatchRun = 7
    · rw [judgeSynced_eighth right run]
    · rw [judgeSynced_mismatch right run]
      exact advanced_tapIndex c

/-- R161, R163: a judgement leaves the tap as CheckerSetup stored it. -/
theorem judgeWord_tapIndex (mode : CounterMode) (first : Bool) (c : Checker) (w : Word) :
    (judgeWord mode first c w).1.tapIndex = c.tapIndex := by
  cases restart : first && c.restartAtFrame with
  | false =>
    cases state : c.state with
    | idle => rw [judgeWord_idle state]
    | seeking => rw [judgeWord_seeking state restart, judgeSeeking_tapIndex]
    | synced => rw [judgeWord_synced state restart, judgeSynced_tapIndex]
  | true =>
    obtain ⟨rfl, restarts⟩ := (Bool.and_eq_true _ _).mp restart
    cases state : c.state with
    | idle => rw [judgeWord_idle state]
    | seeking =>
      rw [judgeWord_reseeds_seeking state restarts]
      exact seeded_tapIndex c w
    | synced => rw [judgeWord_reseeds_synced state restarts, seeded_tapIndex]

end

/-! ## The words of a burst (R162, R163, R165) -/

theorem passWord_silent {first : Bool} {w : Word} {s : State}
    (silent : (judgeWord s.counterMode first s.checker w).2 = none) :
    passWord first w s = { s with checker := (judgeWord s.counterMode first s.checker w).1 } := by
  simp only [passWord, silent, raiseCheckerTest]

theorem passWord_raises {first : Bool} {w : Word} {s : State} {cause : Nat}
    (raises : (judgeWord s.counterMode first s.checker w).2 = some cause) :
    passWord first w s =
      raise .test s.checker.tapIndex cause { s with checker := (judgeWord s.counterMode first s.checker w).1 } := by
  simp only [passWord, raises, raiseCheckerTest, judgeWord_tapIndex]

theorem beginsFrame_eq_decide (kind : BurstKind) :
    beginsFrame kind = decide (kind = .startBurst ∨ kind = .singleBurst) := by
  rw [Bool.eq_iff_iff, decide_eq_true_iff]
  exact beginsFrame_iff kind

theorem endsFrame_iff (kind : BurstKind) : endsFrame kind = true ↔ kind = .endBurst ∨ kind = .singleBurst := by
  cases kind <;> decide

/-- R162: the words of a burst passed in order, the first as the first of a frame where the burst begins one. -/
def wordsPassed (kind : BurstKind) (w : Word) (rest : List Word) (s : State) : State :=
  rest.foldl (fun t v => passWord false v t) (passWord (decide (kind = .startBurst ∨ kind = .singleBurst)) w s)

theorem passBurst_cons (kind : BurstKind) (w : Word) (rest : List Word) (s : State) :
    passBurst kind (w :: rest) s =
      if endsFrame kind then endCheckedFrame (wordsPassed kind w rest s) else wordsPassed kind w rest s := by
  rw [wordsPassed, ← beginsFrame_eq_decide]
  rfl

/-! ## What the taps see (R162) -/

theorem startWritten_keeps (n : Fin 32) (i : Fin 8) (b : Burst) (s : State) :
    Keeps [.contexts, .rings, .writeQueue, .live] s (startWritten n i b s) := by
  intro f hf
  cases f with
  | contexts | rings | writeQueue | live => exact absurd (by decide) hf
  | _ => rfl

theorem continuationWritten_keeps (n : Fin 32) (i : Fin 8) (b : Burst) (s : State) :
    Keeps [.contexts, .rings, .writeQueue] s (continuationWritten n i b s) := by
  intro f hf
  cases f with
  | contexts | rings | writeQueue => exact absurd (by decide) hf
  | _ => rfl

/-- Settles O38: a COUNT word by word, the predictions and the judgement for every pattern, then what the taps pass. -/
theorem checkerJudgesWords : Obligations.CheckerJudgesWords := by
  refine ⟨fun mode c w => ?counting,
    ⟨fun c w => ⟨seeded_eq c w, advanced_eq c, predicted_fill, predicted_absent, fun v => predicted_count,
      fun r => predicted_pn⟩, fun mode first c w judged => ⟨fun seeking => ?seeking, fun synced => ?synced⟩,
      fun mode c w restarts => ⟨fun seeking => judgeWord_reseeds_seeking seeking restarts,
        fun synced => judgeWord_reseeds_synced synced restarts⟩⟩,
    ⟨fun first w s => ⟨passWord_silent, fun cause => passWord_raises⟩, fun kind w rest s => ⟨rfl, ?burst⟩,
      fun n k kind words s => ⟨rfl, rfl⟩, fun n i b s => ⟨?continuing, ?starting⟩,
      fun p k b s => ⟨burstDone_entry p k b s, ?completed⟩⟩⟩
  case counting =>
    have predicts {v : Word} (count : c.pattern = .count) (expected : c.expectation = some (.count v)) :
        predicted c = some v := predicted_count (series_of_count count) expected
    refine ⟨fun idle first => judgeWord_idle idle, fun seeking absent count => ?_,
      fun seeking expected count => ⟨fun short => ?_, fun run => ?_⟩, fun synced expected count => ?_,
      fun v synced expected count differs => ?_, fun synced restarts count => ?_⟩
    · have none := predicted_absent (series_of_count count) absent
      rw [judgeWord_seeking seeking rfl, judgeSeeking_mismatch (by rw [none]; nofun), seeded_count count]
    · rw [judgeWord_seeking seeking rfl, judgeSeeking_match (predicts count expected) (by omega),
        advanced_count expected]
    · rw [judgeWord_seeking seeking rfl, judgeSeeking_sixteenth (predicts count expected) run,
        advanced_count expected]
    · rw [judgeWord_synced synced rfl, judgeSynced_match (predicts count expected), advanced_count expected]
    · have wrong : predicted c ≠ some w := by
        rw [predicts count expected]
        exact fun same => differs (Option.some.inj same).symm
      rw [judgeWord_synced synced rfl]
      refine ⟨fun short => ?_, fun run => judgeSynced_eighth wrong run⟩
      rw [judgeSynced_mismatch wrong (by omega), advanced_count expected]
    · rw [judgeWord_reseeds_synced synced restarts, seeded_count count]
  case seeking =>
    rw [judgeWord_seeking seeking judged]
    exact ⟨judgeSeeking_mismatch, judgeSeeking_match, judgeSeeking_sixteenth⟩
  case synced =>
    rw [judgeWord_synced synced judged]
    exact ⟨judgeSynced_match, judgeSynced_mismatch, judgeSynced_eighth⟩
  case burst =>
    rw [passBurst_cons]
    refine ⟨fun ends synced => ?_, fun ends notSynced => ?_, fun notEnd notSingle => ?_⟩
    · exact (if_pos ((endsFrame_iff kind).mpr ends)).trans (if_pos synced)
    · exact (if_pos ((endsFrame_iff kind).mpr ends)).trans (if_neg notSynced)
    · exact if_neg fun ends => ((endsFrame_iff kind).mp ends).elim notEnd notSingle
  case continuing =>
    intro kind filling good
    rw [acceptBurst_continuing kind]
    exact ⟨_, ringContinue_eq filling good, continuationWritten_keeps n i b s⟩
  case starting =>
    intro begins idle good target
    have begun : abandonFilling n s = s := abandonFilling_of_idle idle
    have written := ringFrameStart_claims good (begun.symm ▸ target)
    rw [begun] at written
    exact ⟨_, written, startWritten_keeps n i b s⟩
  case completed =>
    intro sending running sends entry
    rw [exec_egressBurstCompletion running sends, entry]

end Sys2Proof.Machine
end

section
/-! PROOFS. The test requests (R156, R159, R161, R164, R165). -/

namespace Sys2Proof.Machine

/-! ## The path of a request (R179, R181) -/

section
variable {p : List Word} {rest : List (List Word)} {s : State} {code : BitVec 8} {body : RequestBody}

/-- R179, R181: a request that its own rule refuses leaves the state as it was. -/
theorem request_refused (ready : RequestReady code p rest s)
    (refused : body (requestOperands p) (takeRequest rest s) = (takeRequest rest s, .refused)) :
    Host.Outcome.next (φ := Fault) (ρ := Refusal) (whileRunning s (runRequest code body)) =
      .next (offerReply (refusedReply p) (takeRequest rest s)) := by
  rw [request_run ready, refused]
  rfl

/-- R179, R181: a request that its own rule carries out is answered OK with the results of the rule. -/
theorem request_ok {t : State} {results : List Word} (ready : RequestReady code p rest s)
    (done : body (requestOperands p) (takeRequest rest s) = (t, .ok results)) :
    Host.Outcome.next (φ := Fault) (ρ := Refusal) (whileRunning s (runRequest code body)) =
      .next (offerReply (okReply p results) t) := by
  rw [request_run ready, done]
  rfl

end

/-- R188: the operands follow the two header words. -/
theorem requestOperands_getD (p : List Word) (i : Nat) : (requestOperands p).getD i 0 = p.getD (2 + i) 0 := by
  rw [requestOperands, List.getD_eq_getElem?_getD, List.getElem?_drop, List.getD_eq_getElem?_getD]

/-! ## Codes of patterns, taps and flags (12.5) -/

theorem patternOf_isSome (code : Nat) : (patternOf code).isSome = decide (code ≤ 2) := by
  match code with
  | 0 | 1 | 2 => rfl
  | k + 3 =>
    rw [decide_eq_false (by omega)]
    rfl

theorem code_of_patternOf {code : Nat} {pattern : Pattern} (h : patternOf code = some pattern) : pattern.code = code := by
  match code with
  | 0 | 1 | 2 => cases h; rfl
  | _ + 3 => cases h

theorem code_patternOf_getD {code : Nat} (named : (patternOf code).isSome = true) :
    ((patternOf code).getD .count).code = code := by
  obtain ⟨pattern, hpattern⟩ := Option.isSome_iff_exists.mp named
  rw [hpattern]
  exact code_of_patternOf hpattern

theorem tapOf_isSome (code : Nat) : (tapOf code).isSome = decide (code ≤ 2) := by
  match code with
  | 0 | 1 | 2 => rfl
  | k + 3 =>
    rw [decide_eq_false (by omega)]
    rfl

theorem code_of_tapOf {code : Nat} {tap : Tap} (h : tapOf code = some tap) : tap.code = code := by
  match code with
  | 0 | 1 | 2 => cases h; rfl
  | _ + 3 => cases h

theorem code_tapOf_getD {code : Nat} (named : (tapOf code).isSome = true) : ((tapOf code).getD .none).code = code := by
  obtain ⟨tap, htap⟩ := Option.isSome_iff_exists.mp named
  rw [htap]
  exact code_of_tapOf htap

theorem flagOf_of_le {code : Nat} (low : code ≤ 1) : flagOf code = some (decide (code = 1)) := by
  match code with
  | 0 | 1 => rfl
  | _ + 2 => omega

/-- 12.5: a flag goes out as the code it came in with. -/
theorem flag_of_code {code : Nat} (low : code ≤ 1) : flag (decide (code = 1)) = num code := by
  match code with
  | 0 | 1 => rfl
  | _ + 2 => omega

theorem field_word (w : Word) : field w = w := BitVec.setWidth_eq _

/-! ## GENERATOR_START (R156) -/

theorem inService_eq_decide (st : StreamState) : inService st = decide (st ≠ .off ∧ st ≠ .closing) := by
  rw [Bool.eq_iff_iff, decide_eq_true_iff]
  exact inService_iff st

/-- R156: the checks after the stream number, with their bounds. -/
theorem generatorChecks_eq (n : Fin 32) (ops : List Word) (s : State) :
    generatorChecks n ops s =
      [(decide (operand ops 1 ≤ 2), .badArgument 2), (decide (1 ≤ operand ops 3 ∧ operand ops 3 ≤ 4096), .badArgument 3),
       (decide (operand ops 4 ≤ 65535), .badArgument 4), (decide (1 ≤ operand ops 5 ∧ operand ops 5 ≤ 255), .badArgument 5),
       (decide (s.generator.state = .stopped), .refused), (decide (s.faults.mode = .normal), .refused),
       (decide (s.entries[n].fields.source = .generator), .refused),
       (decide (s.contexts[n].state ≠ .off ∧ s.contexts[n].state ≠ .closing), .refused)] := by
  simp only [generatorChecks, patternOf_isSome, within_eq_decide, inService_eq_decide, Nat.zero_le, true_and]
  rfl

theorem bodyGeneratorStart_badNumber {ops : List Word} (high : 31 < operand ops 0) (s : State) :
    bodyGeneratorStart ops s = (s, .badArgument 1) := by
  rw [bodyGeneratorStart, indexOf_eq_none high]

theorem bodyGeneratorStart_checked {ops : List Word} {n : Fin 32} (stream : operand ops 0 = n.val) (s : State) :
    bodyGeneratorStart ops s =
      checked (generatorChecks n ops s) s ({ s with generator := startedGenerator n ops }, .ok []) := by
  rw [bodyGeneratorStart, indexOf_eq_some stream]

/-- R156: operands that pass the check of the pattern name one. -/
theorem pattern_of_generatorChecks {n : Fin 32} {ops : List Word} {s : State}
    (good : firstFailure (generatorChecks n ops s) = none) :
    ((patternOf (operand ops 1)).getD .count).code = operand ops 1 :=
  code_patternOf_getD
    ((firstFailure_none _).mp good ((patternOf (operand ops 1)).isSome, .badArgument 2) (by simp [generatorChecks]))

/-! ## GENERATOR_STOP (R159) -/

section
variable {s : State} (ops : List Word)

theorem bodyGeneratorStop_stopped (stopped : s.generator.state = .stopped) : bodyGeneratorStop ops s = (s, .refused) := by
  rw [bodyGeneratorStop, stopped]

theorem bodyGeneratorStop_requests (runs : s.generator.state = .running) (busy : s.generator.inProgress = true) :
    bodyGeneratorStop ops s = ({ s with generator := { s.generator with stopRequested := true } }, .ok []) := by
  rw [bodyGeneratorStop, runs, stoppedGenerator, if_pos busy]

theorem bodyGeneratorStop_stops (runs : s.generator.state = .running) (free : s.generator.inProgress = false) :
    bodyGeneratorStop ops s =
      ({ s with generator := { s.generator with state := .stopped, frameStartDue := false } }, .ok []) := by
  rw [bodyGeneratorStop, runs, stoppedGenerator, if_neg (by rw [free]; decide)]

end

/-! ## CHECKER_SETUP (R161) -/

/-- R161: the tap that the operands name. -/
def tapNamed (ops : List Word) : Tap := (tapOf (operand ops 0)).getD .none

/-- Every check of CheckerSetup, that of the tap first (R161). -/
def checkerSetupChecks (ops : List Word) : List (Bool × Answer) :=
  ((tapOf (operand ops 0)).isSome, .badArgument 1) :: checkerChecks (tapNamed ops) ops

theorem bodyCheckerSetup_eq (ops : List Word) (s : State) :
    bodyCheckerSetup ops s =
      checked (checkerSetupChecks ops) s ({ s with checker := setUpChecker (tapNamed ops) ops }, .ok []) := by
  unfold bodyCheckerSetup checkerSetupChecks tapNamed
  cases tapOf (operand ops 0) with
  | none => rfl
  | some tap => rfl

/-- R161: the range of the tap index, by the code of the tap. -/
theorem tapIndexGood_eq (code index : Nat) :
    tapIndexGood ((tapOf code).getD .none) index = decide ((code = 1 → index ≤ 31) ∧ (code = 2 → index ≤ 15)) := by
  match code with
  | 0 => simp [tapOf, tapIndexGood]
  | 1 => simp [tapOf, tapIndexGood]
  | 2 => simp [tapOf, tapIndexGood]
  | _ + 3 => simp [tapOf, tapIndexGood]

/-- R161: the checks with their bounds. -/
theorem checkerSetupChecks_eq (ops : List Word) :
    checkerSetupChecks ops =
      [(decide (operand ops 0 ≤ 2), .badArgument 1),
       (decide ((operand ops 0 = 1 → operand ops 1 ≤ 31) ∧ (operand ops 0 = 2 → operand ops 1 ≤ 15)), .badArgument 2),
       (decide (operand ops 2 ≤ 2), .badArgument 3), (decide (operand ops 4 ≤ 1), .badArgument 4)] := by
  simp only [checkerSetupChecks, checkerChecks, tapNamed, tapOf_isSome, tapIndexGood_eq, patternOf_isSome, flagOf_isSome]

/-- R161: operands that pass the checks name a tap and a pattern. -/
theorem named_of_checkerSetupChecks {ops : List Word} (good : firstFailure (checkerSetupChecks ops) = none) :
    (tapNamed ops).code = operand ops 0 ∧ ((patternOf (operand ops 2)).getD .count).code = operand ops 2 := by
  have passes := (firstFailure_none _).mp good
  have tap := passes ((tapOf (operand ops 0)).isSome, .badArgument 1) (by simp [checkerSetupChecks])
  have pattern := passes ((patternOf (operand ops 2)).isSome, .badArgument 3) (by simp [checkerSetupChecks, checkerChecks])
  exact ⟨code_tapOf_getD tap, code_patternOf_getD pattern⟩

theorem stateForTap_eq (tap : Tap) : stateForTap tap = if tap.code = 0 then .idle else .seeking := by
  cases tap with
  | none => rfl
  | stream => rfl
  | slot => rfl

/-! ## CHECKER_SNAPSHOT (R164) -/

theorem bodyCheckerSnapshot_badFlag {ops : List Word} (high : 1 < operand ops 0) (s : State) :
    bodyCheckerSnapshot ops s = (s, .badArgument 1) := by
  rw [bodyCheckerSnapshot, flagOf_eq_none high]

/-- R164: the three counts copied with the tick number and the flag, and cleared with the flag set. -/
theorem bodyCheckerSnapshot_takes {ops : List Word} (low : operand ops 0 ≤ 1) (s : State) :
    bodyCheckerSnapshot ops s =
      ({ s with
          checkerBank :=
            { words := s.checker.words, errors := s.checker.errors, frames := s.checker.frames,
              tick := some s.reference.tickNumber, cleared := decide (operand ops 0 = 1) }
          checker :=
            if operand ops 0 = 1 then { s.checker with words := 0, errors := 0, frames := 0 } else s.checker },
        .ok [s.checker.words, s.checker.errors.setWidth 32, s.checker.frames, s.reference.tickNumber,
          num (operand ops 0)]) := by
  rw [bodyCheckerSnapshot, flagOf_of_le low]
  simp only [checkerBankWords, checkerCopied, checkerAfter, field_word, optField_word, flag_of_code low,
    decide_eq_true_eq]
  rfl

/-! ## READ_TEST_STATUS (R165) -/

theorem testStatusWords_eq (s : State) :
    testStatusWords s =
      [presence [s.generator.stream.isSome, s.generator.ticksSinceStart.isSome, s.checker.expectation.isSome],
       num s.generator.state.code, num ((s.generator.stream.map Fin.val).getD 0), num s.generator.pattern.code,
       s.generator.fillWord, num s.generator.frameLength, num s.generator.frameCount, num s.generator.spacing,
       num (s.generator.ticksSinceStart.getD 0), flag s.generator.inProgress, num s.generator.burstsTaken,
       s.generator.framesDone, field s.generator.nextFrameNumber, flag s.generator.stopRequested,
       s.generator.countValue, field s.generator.pnRegister, num s.checker.state.code, num s.checker.tap.code,
       num s.checker.tapIndex, num s.checker.pattern.code, s.checker.fillWord, flag s.checker.restartAtFrame,
       num s.checker.matchRun, num s.checker.mismatchRun] := by
  rw [testStatusWords, generatorWords, field_word, field_word]
  rfl

/-- Settles O53: each request by its checks in their order, then by what it does. -/
theorem testRequests : Obligations.TestRequests := by
  refine ⟨fun p rest s => ⟨fun ready => ⟨fun high => ?badStream, fun n stream => ?start⟩,
      fun ready => ⟨fun stopped => ?refused, fun runs busy => ?requested, fun runs free => ?stopped⟩⟩,
    fun p rest s => ⟨fun ready => ?setup, fun ready => ⟨fun high => ?badFlag, fun low => ?snapshot⟩,
      fun ready => ?status⟩⟩
  case badStream => exact request_badArgument ready (bodyGeneratorStart_badNumber high _)
  case start =>
    intro first
    have checks : firstFailure (generatorChecks n (requestOperands p) (takeRequest rest s)) = first := by
      rw [generatorChecks_eq]
      rfl
    have body := bodyGeneratorStart_checked (ops := requestOperands p) stream (takeRequest rest s)
    refine ⟨fun reason bad => ?_, fun refused => ?_, fun good => ?_⟩
    · exact request_badArgument ready (body.trans (checked_of_fails (checks.trans bad) _ _))
    · exact request_refused ready (body.trans (checked_of_fails (checks.trans refused) _ _))
    · refine ⟨_, pattern_of_generatorChecks (checks.trans good), ?_⟩
      refine (request_ok ready (body.trans (checked_of_good (checks.trans good) _ _))).trans ?_
      rw [startedGenerator, requestOperands_getD]
      rfl
  case refused => exact request_refused ready (bodyGeneratorStop_stopped _ stopped)
  case requested => exact request_ok ready (bodyGeneratorStop_requests _ runs busy)
  case stopped => exact request_ok ready (bodyGeneratorStop_stops _ runs free)
  case setup =>
    intro first
    have checks : firstFailure (checkerSetupChecks (requestOperands p)) = first := by
      rw [checkerSetupChecks_eq]
      rfl
    have body := bodyCheckerSetup_eq (requestOperands p) (takeRequest rest s)
    refine ⟨fun reason bad => ?_, fun good => ?_⟩
    · exact request_badArgument ready (body.trans (checked_of_fails (checks.trans bad) _ _))
    · obtain ⟨tap, pattern⟩ := named_of_checkerSetupChecks (checks.trans good)
      refine ⟨_, _, tap, pattern, ?_⟩
      refine (request_ok ready (body.trans (checked_of_good (checks.trans good) _ _))).trans ?_
      rw [setUpChecker, requestOperands_getD, stateForTap_eq, tap]
      rfl
  case badFlag => exact request_badArgument ready (bodyCheckerSnapshot_badFlag high _)
  case snapshot => exact request_ok ready (bodyCheckerSnapshot_takes low _)
  case status =>
    rw [← testStatusWords_eq]
    exact request_ok (t := takeRequest rest s) ready rfl

end Sys2Proof.Machine
end

section
/-! PROOFS. The fault record: what a minor and a major fault and the entry to SAFE do (R168 to R170), and its law, which every step
keeps (R166, R167, R171). -/

namespace Sys2Proof.Machine

/-! ## The dispatcher's wait and the generator's abort (R11, R160) -/

theorem discardWaiting_free {s : State} (free : s.dispatcher.waiting = none) : discardWaiting s = s := by
  rw [discardWaiting, free]

theorem discardWaiting_waits {s : State} {p : Fin 4} (waits : s.dispatcher.waiting = some p) :
    discardWaiting s = finishBurst p s := by
  rw [discardWaiting, waits]

theorem abortGenerator_running {s : State} (running : s.generator.state = .running) :
    abortGenerator s = raiseGeneratorTest 1 { s with generator := abortedGenerator s.generator } := if_pos running

theorem abortGenerator_idle {s : State} (idle : s.generator.state ≠ .running) : abortGenerator s = s := if_neg idle

theorem raiseGeneratorTest_no_stream {s : State} (cause : Nat) (feedsNone : s.generator.stream = none) :
    raiseGeneratorTest cause s = s := by
  rw [raiseGeneratorTest, feedsNone]

/-- R165: the generator tells TEST alone. -/
theorem raiseGeneratorTest_latch_other {l : Fin 16} (h : l ≠ 1) (cause : Nat) (s : State) :
    (raiseGeneratorTest cause s).latches[l] = s.latches[l] := by
  cases stream : s.generator.stream with
  | none => rw [raiseGeneratorTest_no_stream cause stream]
  | some n =>
    rw [raiseGeneratorTest_of_stream cause stream, raise_latch]
    exact if_neg h

theorem abortGenerator_latch_other {l : Fin 16} (h : l ≠ 1) (s : State) :
    (abortGenerator s).latches[l] = s.latches[l] := by
  by_cases running : s.generator.state = .running
  · rw [abortGenerator_running running, raiseGeneratorTest_latch_other h]
  · rw [abortGenerator_idle running]

theorem abortGenerator_tells {s : State} {n : Fin 32} (running : s.generator.state = .running)
    (feeds : s.generator.stream = some n) :
    (abortGenerator s).latches[(1 : Fin 16)] = occur n.val 1 s.latches[(1 : Fin 16)] := by
  have told : abortGenerator s = raise .test n.val 1 { s with generator := abortedGenerator s.generator } :=
    (abortGenerator_running running).trans (raiseGeneratorTest_of_stream 1 feeds)
  rw [told]
  exact raise_latch_own rfl _ _ _

/-- R160, R165: a STOPPED generator, and one that feeds no stream, tells nothing. -/
theorem abortGenerator_silent {s : State} (h : s.generator.state ≠ .running ∨ s.generator.stream = none) :
    (abortGenerator s).latches = s.latches := by
  by_cases running : s.generator.state = .running
  · have quiet : abortGenerator s = { s with generator := abortedGenerator s.generator } :=
      (abortGenerator_running running).trans
        (raiseGeneratorTest_no_stream 1 (h.resolve_left (not_not.mpr running)))
    rw [quiet]
  · rw [abortGenerator_idle running]

/-! ## The entry to SAFE (R170) -/

/-- R170: the part with DOUBLE set and in SAFE, before the work of the entry. -/
def inDouble (s : State) : State := { s with faults := { s.faults with double := true, mode := .safe } }

theorem enterSafe_eq (s : State) : enterSafe s = abortGenerator (discardWaiting (inDouble s)) := rfl

/-- R170: the dispatcher's part of the entry leaves generator and latches. -/
theorem discardWaiting_inDouble_generator (s : State) : (discardWaiting (inDouble s)).generator = s.generator :=
  discardWaiting_keeps (inDouble s) .generator (by decide)

theorem discardWaiting_inDouble_latches (s : State) : (discardWaiting (inDouble s)).latches = s.latches :=
  discardWaiting_keeps (inDouble s) .latches (by decide)

theorem enterSafe_faults (s : State) : (enterSafe s).faults = { s.faults with double := true, mode := .safe } :=
  (abortGenerator_keeps _ .faults (by decide)).trans (discardWaiting_keeps (inDouble s) .faults (by decide))

theorem enterSafe_ingress (s : State) : (enterSafe s).ingress = (discardWaiting (inDouble s)).ingress :=
  abortGenerator_keeps _ .ingress (by decide)

theorem enterSafe_dispatcher (s : State) : (enterSafe s).dispatcher = (discardWaiting (inDouble s)).dispatcher :=
  abortGenerator_keeps _ .dispatcher (by decide)

theorem enterSafe_generator_running {s : State} (running : s.generator.state = .running) :
    (enterSafe s).generator = abortedGenerator s.generator := by
  have same := discardWaiting_inDouble_generator s
  rw [enterSafe_eq, abortGenerator_running (same.symm ▸ running), raiseGeneratorTest_generator, same]

theorem enterSafe_generator_idle {s : State} (idle : s.generator.state ≠ .running) :
    (enterSafe s).generator = s.generator := by
  have same := discardWaiting_inDouble_generator s
  rw [enterSafe_eq, abortGenerator_idle (same.symm ▸ idle), same]

theorem enterSafe_tells {s : State} {n : Fin 32} (running : s.generator.state = .running)
    (feeds : s.generator.stream = some n) :
    (enterSafe s).latches[(1 : Fin 16)] = occur n.val 1 s.latches[(1 : Fin 16)] := by
  have same := discardWaiting_inDouble_generator s
  rw [enterSafe_eq, abortGenerator_tells (same.symm ▸ running) (same.symm ▸ feeds), discardWaiting_inDouble_latches]

theorem enterSafe_silent {s : State} (h : s.generator.state ≠ .running ∨ s.generator.stream = none) :
    (enterSafe s).latches = s.latches := by
  have same := discardWaiting_inDouble_generator s
  rw [enterSafe_eq, abortGenerator_silent (same.symm ▸ h), discardWaiting_inDouble_latches]

theorem enterSafe_latch_other {l : Fin 16} (h : l ≠ 1) (s : State) : (enterSafe s).latches[l] = s.latches[l] := by
  rw [enterSafe_eq, abortGenerator_latch_other h, discardWaiting_inDouble_latches]

/-! ## A fault arrives at the fault unit (R168, R169) -/

section
variable {s : State} (kind : FaultKind) (source : FaultSource) (i : Nat) (block : Option Nat)

/-- R167: the fault captured at an arrival. -/
def arriving (s : State) : CapturedFault :=
  { kind := kind, source := source, index := i, block := block, tick := s.reference.tickNumber }

theorem minorFault_captured (minor : s.faults.minorHeld = false) (major : s.faults.majorHeld = false)
    (double : s.faults.double = false) :
    minorFault kind source i block s =
      raise .faultMinor i kind.code
        { s with
          faults := { s.faults with minorHeld := true, captured := some (arriving kind source i block s) } } := by
  refine if_neg ?_
  rw [minor, major, double]
  decide

theorem minorFault_lost (held : s.faults.minorHeld = true ∨ s.faults.majorHeld = true ∨ s.faults.double = true) :
    minorFault kind source i block s = s := by
  refine if_pos ?_
  rwa [Bool.or_eq_true, Bool.or_eq_true, or_assoc]

theorem majorFault_captured (major : s.faults.majorHeld = false) (double : s.faults.double = false) :
    majorFault kind source i block s =
      raise .faultMajor i kind.code
        { s with
          faults :=
            { s.faults with minorHeld := false, majorHeld := true, captured := some (arriving kind source i block s) } } := by
  rw [majorFault, if_neg (by rw [double]; decide), if_neg (by rw [major]; decide)]
  rfl

theorem majorFault_doubled (major : s.faults.majorHeld = true) (double : s.faults.double = false) :
    majorFault kind source i block s = raise .faultDouble i kind.code (enterSafe s) := by
  rw [majorFault, if_neg (by rw [double]; decide), if_pos major]

theorem majorFault_ignored (double : s.faults.double = true) : majorFault kind source i block s = s := if_pos double

end

/-- Settles O10: a minor fault by what is held; a major fault by what is held, and the entry to SAFE field by field. -/
theorem faultsReachTheRecord : Obligations.FaultsReachTheRecord := by
  intro kind source i block s
  refine ⟨minorFault_captured kind source i block, minorFault_lost kind source i block,
    majorFault_captured kind source i block, fun major double => ?_, majorFault_ignored kind source i block⟩
  rw [majorFault_doubled kind source i block major double]
  refine ⟨enterSafe_faults s, fun free => ?free, fun p waits => ?waits, enterSafe_generator_running,
    enterSafe_generator_idle, fun n running feeds => ?tells, fun silent => ?silent, ?double,
    fun l notDouble notTest => ?other, (enterSafe_keeps s).seq (raise_keeps _ _ _ _) (by decide)⟩
  case free =>
    have same : discardWaiting (inDouble s) = inDouble s := discardWaiting_free free
    exact ⟨(enterSafe_ingress s).trans (by rw [same]; rfl), (enterSafe_dispatcher s).trans (by rw [same]; rfl)⟩
  case waits =>
    have finished : discardWaiting (inDouble s) = finishBurst p (inDouble s) := discardWaiting_waits waits
    refine ⟨(enterSafe_ingress s).trans (by rw [finished]; rfl), (enterSafe_dispatcher s).trans ?_⟩
    rw [finished, ← nextIndex_eq_add_one p]
    rfl
  case tells =>
    rw [raise_latch, if_neg (by decide), enterSafe_tells running feeds]
    rfl
  case silent => rw [raise_latch, if_neg (by decide), enterSafe_silent silent]
  case double =>
    refine (raise_latch_own (e := .faultDouble) rfl i kind.code (enterSafe s)).trans ?_
    rw [enterSafe_latch_other (by decide)]
    rfl
  case other => rw [raise_latch, if_neg (show l ≠ latchNumber .faultDouble from notDouble), enterSafe_latch_other notTest]

/-! ## The law of the fault record (R166, R167) -/

theorem FaultRecordLawful.of_apart {touched : List Field} {s t : State} (hs : FaultRecordLawful s.faults)
    (hk : Keeps touched s t) (h : Field.faults ∉ touched) : FaultRecordLawful t.faults := by
  rwa [show t.faults = s.faults from hk .faults h]

/-- R168: a minor fault is captured only where nothing is held, and SAFE stays as it was. -/
theorem FaultRecordLawful.minorFault {s : State} (hs : FaultRecordLawful s.faults) {kind : FaultKind}
    (minor : kind.isMinor = true) (source : FaultSource) (i : Nat) (block : Option Nat) :
    FaultRecordLawful (minorFault kind source i block s).faults := by
  by_cases held : s.faults.minorHeld = true ∨ s.faults.majorHeld = true ∨ s.faults.double = true
  · rwa [minorFault_lost kind source i block held]
  · obtain ⟨noMinor, noMajor, noDouble⟩ := not_or.mp held |>.imp_right not_or.mp
    rw [Bool.not_eq_true] at noMinor noMajor noDouble
    obtain ⟨_, _, safe, _⟩ := hs
    rw [minorFault_captured kind source i block noMinor noMajor noDouble]
    refine ⟨fun ⟨_, held⟩ => ?_, fun double => ?_, safe, minor.symm, ?_⟩
    · exact Bool.false_ne_true (noMajor.symm.trans held)
    · exact absurd (noDouble.symm.trans double) Bool.false_ne_true
    · exact noMajor.trans (by rw [show (arriving kind source i block s).kind = kind from rfl, minor]; rfl)

/-- R169, R170: a major fault takes the place of a minor one, or sets DOUBLE and SAFE together and keeps the captured fault. -/
theorem FaultRecordLawful.majorFault {s : State} (hs : FaultRecordLawful s.faults) {kind : FaultKind}
    (major : kind.isMinor = false) (source : FaultSource) (i : Nat) (block : Option Nat) :
    FaultRecordLawful (majorFault kind source i block s).faults := by
  obtain ⟨apart, _, safe, captured⟩ := id hs
  by_cases double : s.faults.double = true
  · rwa [majorFault_ignored kind source i block double]
  · rw [Bool.not_eq_true] at double
    by_cases held : s.faults.majorHeld = true
    · rw [majorFault_doubled kind source i block held double, raise_faults, enterSafe_faults]
      exact ⟨apart, fun _ => held, ⟨fun _ => rfl, fun _ => rfl⟩, captured⟩
    · rw [majorFault_captured kind source i block (Bool.not_eq_true _ ▸ held) double]
      refine ⟨nofun, fun _ => rfl, safe, major.symm, ?_⟩
      rw [show (arriving kind source i block s).kind = kind from rfl, major]
      rfl

theorem FaultRecordLawful.judgeAccess {s : State} (hs : FaultRecordLawful s.faults) (v : EccVerdict)
    (source : FaultSource) (i block : Nat) : FaultRecordLawful (judgeAccess v source i block s).faults := by
  cases v with
  | good => exact hs
  | corrected => exact (hs.of_apart (countMemory_keeps s _) (by decide)).minorFault rfl source i _
  | uncorrectable => exact (hs.of_apart (countMemory_keeps s _) (by decide)).majorFault rfl source i _

/-! ## The entries that fail their parity check (R37, R88, R89) -/

theorem FaultRecordLawful.entryParityFailure {s : State} (hs : FaultRecordLawful s.faults) (n : Fin 32) :
    FaultRecordLawful (entryParityFailure n s).faults :=
  (hs.majorFault rfl _ _ _).of_apart (enterClosing_keeps n _) (by decide)

theorem FaultRecordLawful.routeParityFailure {s : State} (hs : FaultRecordLawful s.faults) (k : Fin 16) :
    FaultRecordLawful (routeParityFailure k s).faults :=
  (hs.of_apart (modifyRoute_keeps s k _) (by decide)).majorFault rfl _ _ _

/-! ## The dispatcher (R9, R11) -/

theorem FaultRecordLawful.decideMedia {s : State} (hs : FaultRecordLawful s.faults) (p : Fin 4) (b : Burst) :
    FaultRecordLawful (decideMedia p b s).faults := by
  have checked (n : Fin 32) : FaultRecordLawful (checkEntry n s).faults := by
    unfold checkEntry
    split
    · exact hs.entryParityFailure n
    · exact hs
  unfold Machine.decideMedia
  split
  · exact hs
  · unfold routeMedia
    split
    · split
      · exact (checked _).of_apart ((finishBurst_keeps _ p).seq (both := [.ingress, .dispatcher] ++ acceptTouches)
          (acceptBurst_keeps _ b _) (by decide)) (by decide)
      · exact checked _
    · exact checked _

theorem FaultRecordLawful.decideBurst {s : State} (hs : FaultRecordLawful s.faults) (p : Fin 4) (b : Burst) :
    FaultRecordLawful (decideBurst p b s).faults := by
  have finished : FaultRecordLawful (finishBurst p s).faults := hs
  unfold Machine.decideBurst
  split
  · exact finished.of_apart (intakeRequest_keeps p b _) (by decide)
  · exact hs.decideMedia p b
  · exact hs.decideMedia p b
  · exact hs.decideMedia p b
  · exact hs.decideMedia p b
  · exact finished
  · exact finished

theorem FaultRecordLawful.dispatch {s : State} (hs : FaultRecordLawful s.faults) :
    FaultRecordLawful (dispatch s).faults := by
  unfold Machine.dispatch
  split
  · split
    · exact hs
    · split
      · exact hs
      · exact hs.decideBurst _ _
  · exact hs

theorem FaultRecordLawful.retryWaiting {s : State} (hs : FaultRecordLawful s.faults) :
    FaultRecordLawful (retryWaiting s).faults := by
  have free : FaultRecordLawful { s with dispatcher := { s.dispatcher with waiting := none } }.faults := hs
  unfold Machine.retryWaiting
  split
  · split
    · exact hs
    · split
      · exact free
      · exact free.decideBurst _ _
  · exact hs

/-! ## The tick and the rows of the reference unit (R20, R22 to R27, R87, R157) -/

/-- R87: of a slot's work, adoption and the check of the active entry alone reach the fault record. -/
theorem FaultRecordLawful.slotWork {s : State} (hs : FaultRecordLawful s.faults) (k : Fin 16) :
    FaultRecordLawful (slotWork k s).faults := by
  have expired := hs.of_apart (expireHold_keeps k s) (by decide)
  have adopted : FaultRecordLawful (adoptPending k (expireHold k s)).faults := by
    unfold adoptPending
    split
    · exact expired
    · split
      · unfold adoptEntry
        dsimp only
        split
        · exact expired
        · exact expired
      · exact expired.routeParityFailure k
  have cut := adopted.of_apart (cutIfLate_keeps k _) (by decide)
  have checked : FaultRecordLawful (checkActive k (cutIfLate k (adoptPending k (expireHold k s)))).faults := by
    unfold checkActive
    split
    · exact cut.routeParityFailure k
    · exact cut
  exact (checked.of_apart (choose_keeps k _ _) (by decide)).of_apart (countDownHold_keeps k _) (by decide)

theorem FaultRecordLawful.startGeneratedFrame {s : State} (hs : FaultRecordLawful s.faults) :
    FaultRecordLawful (startGeneratedFrame s).faults := by
  have record (g : Generator) : FaultRecordLawful { s with generator := g }.faults := hs
  unfold Machine.startGeneratedFrame
  split
  · split
    · exact hs
    · split
      · exact ((record _).of_apart (offerBurst_keeps _ _) (by decide)).of_apart (takeGenerated_keeps _) (by decide)
      · exact (record _).entryParityFailure _
  · exact hs

theorem FaultRecordLawful.doTickWork {s : State} (hs : FaultRecordLawful s.faults) (w : TickWork) :
    FaultRecordLawful (doTickWork w s).faults := by
  cases w with
  | count n => exact hs.of_apart (countTick_keeps n s) (by decide)
  | judge n => exact hs.of_apart (judgeActivity_keeps n s) (by decide)
  | slot k => exact hs.slotWork k
  | generator => exact hs.startGeneratedFrame

theorem FaultRecordLawful.makeTick {s : State} (hs : FaultRecordLawful s.faults) (order : List TickWork) :
    FaultRecordLawful (makeTick order s).faults := by
  have judged := hs.of_apart (Keeps.forEach judgeActivity judgeActivity_keeps (indexes 32) s) (by decide)
  have finished : FaultRecordLawful (finishTick s).faults :=
    judged.of_apart (Keeps.forEach expireHold expireHold_keeps (indexes 16) _) (by decide)
  have numbered := finished.of_apart (numberTick_keeps _) (by decide)
  exact forEach_keeps (fun t : State => FaultRecordLawful t.faults) _ (fun w _ ht => ht.doTickWork w) _ _ numbered

theorem FaultRecordLawful.freeExpiry {s : State} (hs : FaultRecordLawful s.faults) (order : List TickWork) :
    FaultRecordLawful (freeExpiry order s).faults := by
  by_cases due : freeExpiryDue s.reference = true
  · rw [freeExpiry_due due]
    exact hs.makeTick order
  · rwa [freeExpiry_idle due]

theorem FaultRecordLawful.closeWindow {s : State} (hs : FaultRecordLawful s.faults) (order : List TickWork) :
    FaultRecordLawful (closeWindow order s).faults := by
  by_cases due : windowCloseDue s.reference = true
  · rw [closeWindow_due due]
    refine FaultRecordLawful.of_apart ?_ (raiseAtClose_keeps _ _ _) (by decide)
    exact hs.makeTick order
  · rwa [closeWindow_idle due]

theorem FaultRecordLawful.searchFlywheel {s : State} (hs : FaultRecordLawful s.faults) (order : List TickWork) :
    FaultRecordLawful (searchFlywheel order s).faults := by
  by_cases due : flywheelDue s.reference = true
  · rw [searchFlywheel_due due]
    exact hs.makeTick order
  · rwa [searchFlywheel_idle due]

theorem FaultRecordLawful.edgeWhileFollowing {s : State} (hs : FaultRecordLawful s.faults) (order : List TickWork) :
    FaultRecordLawful (edgeWhileFollowing order s).faults := by
  rcases edgeWhileFollowing_cases order s with stray | ticks | ignored
  · rw [stray]
    exact hs
  · rw [ticks, edgeInWindow_eq]
    split
    · exact hs.makeTick order
    · exact hs.makeTick order
  · rwa [ignored]

theorem FaultRecordLawful.edgeWhileSearching {s : State} (hs : FaultRecordLawful s.faults) (order : List TickWork) :
    FaultRecordLawful (edgeWhileSearching order s).faults := by
  have tracking : FaultRecordLawful (raiseRefState .tracking (modifyReference regained s)).faults := hs
  unfold Machine.edgeWhileSearching
  split
  · rcases Nat.lt_or_ge (2 * s.reference.periodCounter) s.reference.params.period with silent | ticks
    · rw [regain_silent silent]
      exact hs
    · rw [regain_ticks ticks]
      exact tracking.makeTick order
  · exact hs

theorem FaultRecordLawful.seeEdge {s : State} (hs : FaultRecordLawful s.faults) (order : List TickWork) :
    FaultRecordLawful (seeEdge order s).faults := by
  unfold Machine.seeEdge
  split
  · exact hs
  · exact hs.edgeWhileFollowing order
  · exact hs.edgeWhileFollowing order
  · exact hs.edgeWhileSearching order

theorem FaultRecordLawful.whileClocked {s : State} (hs : FaultRecordLawful s.faults) {f : State → State}
    (hf : FaultRecordLawful (f s).faults) : FaultRecordLawful (whileClocked f s).faults := by
  unfold Machine.whileClocked
  split
  · exact hf
  · exact hs

/-! ## The accesses to frame memory and the refresh timer (R133, R137 to R140) -/

theorem FaultRecordLawful.completeWrite {s : State} (hs : FaultRecordLawful s.faults) (e : WriteEntry)
    (rest : List WriteEntry) : FaultRecordLawful (completeWrite e rest s).faults := by
  refine FaultRecordLawful.judgeAccess ?_ _ _ _ _
  refine FaultRecordLawful.of_apart ?_ (settleClosing_keeps _ _) (by decide)
  refine FaultRecordLawful.of_apart ?_ (ringCompletion_keeps e _) (by decide)
  exact hs

theorem FaultRecordLawful.completeSlotRead {s : State} (hs : FaultRecordLawful s.faults) (k : Fin 16) (r : SlotRead) :
    FaultRecordLawful (completeSlotRead k r s).faults := by
  have taken (f : EmissionUnit → EmissionUnit) : FaultRecordLawful (modifyEmission k f (endAccess s)).faults := hs
  refine FaultRecordLawful.judgeAccess ?_ _ _ _ _
  split
  · exact (taken _).of_apart (reportMediaError_keeps r _) (by decide)
  · exact taken _

theorem FaultRecordLawful.completeManagement {s : State} (hs : FaultRecordLawful s.faults) (j : MemoryJob) :
    FaultRecordLawful (completeManagement j s).faults := by
  have ended : FaultRecordLawful (endAccess { s with memory := memoryAfter s.memory j }).faults := hs
  exact (ended.judgeAccess _ _ _ _).of_apart (offerReply_keeps _ _) (by decide)

theorem FaultRecordLawful.expireRefreshTimer {s : State} (hs : FaultRecordLawful s.faults) :
    FaultRecordLawful (expireRefreshTimer s).faults := by
  have stopped : FaultRecordLawful (modifyArbiter (fun a => { a with refreshTimer := 0 }) s).faults := hs
  unfold Machine.expireRefreshTimer
  split
  · split
    · exact hs
    · exact stopped.majorFault rfl _ _ _
  · exact hs

/-! ## The resets (R186) and the reply that brings one (R185) -/

theorem FaultRecordLawful.beginPinReset {s : State} (hs : FaultRecordLawful s.faults) :
    FaultRecordLawful (beginPinReset s).faults := by
  unfold Machine.beginPinReset
  split
  · exact hs
  · exact faultRecordLawful_reset

theorem FaultRecordLawful.burstDone {s : State} (hs : FaultRecordLawful s.faults) (p : Fin 4) (from_ : Participant)
    (b : Burst) : FaultRecordLawful (burstDone p from_ b s).faults := by
  cases from_ with
  | slotEntry k => exact hs.of_apart (burstDone_slot_keeps p k b s) (by decide)
  | slotAbort k => exact hs
  | reply =>
    show FaultRecordLawful (replyDone s).faults
    unfold replyDone
    split
    · exact hs
    · split
      · exact faultRecordLawful_reset
      · exact hs

theorem FaultRecordLawful.grantEgress {s : State} (hs : FaultRecordLawful s.faults) (p : Fin 4) :
    FaultRecordLawful (grantEgress p s).faults := by
  have taken (i : Fin 17) : FaultRecordLawful (takeBurst p i s).faults := hs.of_apart (takeBurst_keeps p i s) (by decide)
  unfold Machine.grantEgress
  split
  · split
    · exact hs
    · split
      · exact hs
      · split
        · exact (taken _).of_apart (startSending_keeps p _ _ _) (by decide)
        · exact ((taken _).of_apart (countEgress_keeps _ p _) (by decide)).burstDone p _ _
  · exact hs

theorem FaultRecordLawful.completeEgress {s : State} (hs : FaultRecordLawful s.faults) (p : Fin 4) :
    FaultRecordLawful (completeEgress p s).faults := by
  unfold Machine.completeEgress
  split
  · exact hs
  · refine FaultRecordLawful.burstDone ?_ p _ _
    exact hs

/-! ## The requests that reach the fault record (R39, R141, R171) -/

theorem FaultRecordLawful.runRequest {s : State} (hs : FaultRecordLawful s.faults) {body : RequestBody}
    (hb : ∀ ops u, FaultRecordLawful u.faults → FaultRecordLawful (body ops u).1.faults) (code : BitVec 8) :
    FaultRecordLawful (runRequest code body s).faults := by
  rcases runRequest_cases code body s with same | ⟨p, rest, _, run⟩
  · rwa [same]
  · rw [run]
    exact (hb _ _ (hs.of_apart (takeRequest_keeps s rest) (by decide))).of_apart (answerRequest_keeps p _ _) (by decide)

theorem FaultRecordLawful.checked {s : State} (hs : FaultRecordLawful s.faults) {effect : State × Answer}
    (he : FaultRecordLawful effect.1.faults) (checks : List (Bool × Answer)) :
    FaultRecordLawful (checked checks s effect).1.faults := by
  rcases checked_cases checks s effect with good | ⟨a, _, bad⟩
  · rwa [good]
  · rwa [bad]

theorem faultRecordLawful_enableStream (ops : List Word) (s : State) (hs : FaultRecordLawful s.faults) :
    FaultRecordLawful (bodyEnableStream ops s).1.faults := by
  unfold bodyEnableStream onStream
  split
  · exact hs
  · dsimp only
    split
    · exact hs
    · split
      · exact hs.checked (show FaultRecordLawful (modifyContext _ enabledContext s).faults from hs) _
      · exact hs.majorFault rfl _ _ _

theorem faultRecordLawful_setArbitration (ops : List Word) (s : State) (hs : FaultRecordLawful s.faults) :
    FaultRecordLawful (bodySetArbitration ops s).1.faults := by
  have inForce (order : ArbOrder) : FaultRecordLawful (modifyArbiter (arbitrationSet order ops) s).faults := hs
  unfold bodySetArbitration
  split
  · exact hs
  · exact hs.checked (inForce _).expireRefreshTimer _

/-- R171: the record that ClearFaults leaves is that of the reset. -/
theorem faultRecordLawful_clearFaults (ops : List Word) (s : State) :
    FaultRecordLawful (bodyClearFaults ops s).1.faults := faultRecordLawful_reset

/-! ## Commands and steps -/

theorem faultRecordLawful_of_whileRunning {s t : State} {f : State → State} (hs : FaultRecordLawful s.faults)
    (hf : FaultRecordLawful (f s).faults)
    (h : Host.Outcome.next (φ := Fault) (ρ := Refusal) (whileRunning s f) = .next t) : FaultRecordLawful t.faults := by
  injection h with h
  rw [← h]
  unfold whileRunning
  split
  · exact hs
  · exact hf

theorem faultRecordLawful_of_writeCompletion {s t : State} (hs : FaultRecordLawful s.faults)
    (h : execWriteCompletion s = .next t) : FaultRecordLawful t.faults := by
  unfold execWriteCompletion at h
  split at h
  · cases h; exact hs
  · split at h
    · cases h; exact hs
    · split at h
      · cases h; exact hs.completeWrite _ _
      · cases h

theorem faultRecordLawful_of_slotReadCompletion {s t : State} (hs : FaultRecordLawful s.faults)
    (h : execSlotReadCompletion s = .next t) : FaultRecordLawful t.faults := by
  unfold execSlotReadCompletion at h
  split at h
  · cases h; exact hs
  · split at h
    · cases h; exact hs
    · split at h
      · cases h; exact hs.completeSlotRead _ _
      · cases h

theorem faultRecordLawful_of_managementAccessCompletion {s t : State} (hs : FaultRecordLawful s.faults)
    (h : execManagementAccessCompletion s = .next t) : FaultRecordLawful t.faults := by
  unfold execManagementAccessCompletion at h
  split at h
  · cases h; exact hs
  · split at h
    · cases h; exact hs
    · split at h
      · cases h; exact hs.completeManagement _
      · cases h

/-- The law at each command that can touch the fault record; every other command leaves it. -/
theorem faultRecordLawful_exec (c : Instr) (s t : State) (hs : FaultRecordLawful s.faults) (h : exec c s = .next t) :
    FaultRecordLawful t.faults := by
  by_cases touched : Field.faults ∈ touches c
  · cases c with
    | powerOnReset memsz cells bad => cases h; exact faultRecordLawful_reset
    | pinReset memsz => cases h; exact faultRecordLawful_reset
    | pinResetBegin => cases h; exact hs.beginPinReset
    | dispatchBurst => exact faultRecordLawful_of_whileRunning hs hs.dispatch h
    | waitingBurstAccepted => exact faultRecordLawful_of_whileRunning hs hs.retryWaiting h
    | writeCompletion => exact faultRecordLawful_of_writeCompletion hs h
    | slotReadCompletion => exact faultRecordLawful_of_slotReadCompletion hs h
    | managementAccessCompletion => exact faultRecordLawful_of_managementAccessCompletion hs h
    | refreshTimerExpiry => exact faultRecordLawful_of_whileRunning hs hs.expireRefreshTimer h
    | refEdge order => exact faultRecordLawful_of_whileRunning hs (hs.whileClocked (hs.seeEdge order)) h
    | freePeriodExpiry order => exact faultRecordLawful_of_whileRunning hs (hs.whileClocked (hs.freeExpiry order)) h
    | windowClose order => exact faultRecordLawful_of_whileRunning hs (hs.whileClocked (hs.closeWindow order)) h
    | searchingFlywheel order =>
      exact faultRecordLawful_of_whileRunning hs (hs.whileClocked (hs.searchFlywheel order)) h
    | generatorFrameStart => exact faultRecordLawful_of_whileRunning hs hs.startGeneratedFrame h
    | egressGrant p => exact faultRecordLawful_of_whileRunning hs (hs.grantEgress p) h
    | egressBurstCompletion p => exact faultRecordLawful_of_whileRunning hs (hs.completeEgress p) h
    | enableStream => exact faultRecordLawful_of_whileRunning hs (hs.runRequest faultRecordLawful_enableStream _) h
    | setArbitration => exact faultRecordLawful_of_whileRunning hs (hs.runRequest faultRecordLawful_setArbitration _) h
    | clearFaults =>
      exact faultRecordLawful_of_whileRunning hs (hs.runRequest (fun ops u _ => faultRecordLawful_clearFaults ops u) _) h
    | _ => simp [touches] at touched
  · exact hs.of_apart (exec_keeps h) touched

/-- Settles O56: every command, and a timebase unit, keeps the law of the fault record. -/
theorem faultRecordStaysLawful : Obligations.FaultRecordStaysLawful :=
  keptByStep_of (fun _ _ hs => hs) faultRecordLawful_exec
    fun s hs => hs.of_apart (timeUnit_keeps s) (by decide)

end Sys2Proof.Machine
end

section
/-! PROOFS. Event latches (R173, R174), the requests on them (R174 to R176), and those on the fault record (R171, R172). -/

namespace Sys2Proof.Machine

/-! ## Occurrences and ALERT_N (R173, R174) -/

theorem alertAsserted_iff (s : State) :
    alertAsserted s = true ↔ ∃ i : Fin 16, s.latches[i].pending = true ∧ s.latches[i].mask = true := by
  rw [alertAsserted, toList_eq_map_indexes, List.any_map, List.any_eq_true]
  simp [mem_indexes]

/-- Settles O9: the latch of the event and every other; the table of the latch numbers; the search of the latches. -/
theorem eventOccurrence : Obligations.EventOccurrence := by
  refine ⟨fun e source cause s => ⟨raise_keeps s source cause e, raise_latch_own rfl source cause s, fun i other => ?_⟩,
    by decide, alertAsserted_iff⟩
  rw [raise_latch]
  exact if_neg other

/-! ## READ_EVENT (R175) -/

theorem highestLatch_none {latches : Vector Latch 16}
    (h : ∀ i : Fin 16, ¬(latches[i].pending = true ∧ latches[i].mask = true)) : highestLatch latches = none := by
  refine List.find?_eq_none.mpr fun i _ => ?_
  rw [Bool.and_eq_true]
  exact h i

/-- The search of a table from its last index finds the highest index of which the property holds. -/
theorem find?_reverse_indexes {n : Nat} {p : Fin n → Bool} {i : Fin n} (holds : p i = true)
    (above : ∀ j, i < j → p j = false) : (indexes n).reverse.find? p = some i := by
  have reversed (k : Nat) (hk : k < (indexes n).reverse.length) : ((indexes n).reverse[k]).val = n - 1 - k := by
    simp [indexes]
  have length : (indexes n).reverse.length = n := by simp [indexes]
  have place : n - 1 - i.val < (indexes n).reverse.length := by omega
  refine List.find?_eq_some_iff_getElem.mpr ⟨holds, n - 1 - i.val, place, ?_, fun k before => ?_⟩
  · apply Fin.ext
    rw [reversed]
    omega
  · have higher : i < (indexes n).reverse[k] := by
      rw [Fin.lt_def, reversed]
      omega
    rw [above _ higher]
    rfl

theorem highestLatch_some {latches : Vector Latch 16} {i : Fin 16} (pending : latches[i].pending = true)
    (unmasked : latches[i].mask = true)
    (above : ∀ j : Fin 16, i < j → ¬(latches[j].pending = true ∧ latches[j].mask = true)) :
    highestLatch latches = some i := by
  refine find?_reverse_indexes (by rw [pending, unmasked]; rfl) fun j higher => ?_
  rw [← Bool.not_eq_true, Bool.and_eq_true]
  exact above j higher

theorem bodyReadEvent_none {s : State} (ops : List Word) (h : highestLatch s.latches = none) :
    bodyReadEvent ops s = (s, .ok [0xFF#32, 0#32, 0#32]) := by
  rw [bodyReadEvent, h]
  rfl

theorem bodyReadEvent_some {s : State} {i : Fin 16} (ops : List Word) (h : highestLatch s.latches = some i) :
    bodyReadEvent ops s =
      ({ s with latches := s.latches.set i { s.latches[i] with pending := false } },
        .ok [num i.val, field s.latches[i].source, field s.latches[i].cause]) := by
  rw [bodyReadEvent, h]
  rfl

/-! ## READ_EVENT_STATE (R176) -/

theorem latchSet_eq (latches : Vector Latch 16) (member : Latch → Bool) :
    latchSet latches member = presence ((indexes 16).map fun i => member latches[i]) := by
  rw [latchSet, toList_eq_map_indexes, List.map_map]
  rfl

theorem eventStateWords_eq (s : State) :
    eventStateWords s =
      presence ((indexes 16).map fun i => s.latches[i].pending) ::
        presence ((indexes 16).map fun i => s.latches[i].mask) :: flag (alertAsserted s) ::
          (indexes 16).map fun i => (0#19 ++ s.latches[i].source ++ 0#4 ++ s.latches[i].cause : BitVec 32) := by
  rw [eventStateWords, latchSet_eq, latchSet_eq, toList_eq_map_indexes, List.map_map]
  rfl

/-! ## CLEAR_EVENTS and WRITE_EVENT_MASK (R174, R176) -/

/-- Every entry of a table changed, each by its own index. -/
theorem forEach_modifyAt_get {α : Type} {n : Nat} (f : Fin n → α → α) {is : List (Fin n)} (once : is.Nodup)
    (v : Vector α n) (j : Fin n) :
    (forEach is (fun i t => modifyAt t i (f i)) v)[j] = if j ∈ is then f j v[j] else v[j] := by
  induction is generalizing v with
  | nil => rfl
  | cons i rest ih =>
    obtain ⟨fresh, later⟩ := List.nodup_cons.mp once
    rw [forEach_cons, ih later, modifyAt_get]
    by_cases own : j = i
    · subst own
      rw [if_neg fresh, if_pos rfl, if_pos List.mem_cons_self]
    · simp only [own, List.mem_cons, false_or, if_false]

theorem forEach_indexes_get {α : Type} {n : Nat} (f : Fin n → α → α) (v : Vector α n) (j : Fin n) :
    (forEach (indexes n) (fun i t => modifyAt t i (f i)) v)[j] = f j v[j] := by
  have once : (indexes n).Nodup := List.nodup_finRange n
  rw [forEach_modifyAt_get f once, if_pos (mem_indexes j)]

/-- R176: what ClearEvents makes of latch `i`. -/
def clearedIfNamed (set : Word) (i : Fin 16) (l : Latch) : Latch := if inSet set i then cleared l else l

theorem modifyAt_clearedIfNamed (set : Word) (i : Fin 16) (latches : Vector Latch 16) :
    modifyAt latches i (clearedIfNamed set i) = if inSet set i then modifyAt latches i cleared else latches := by
  by_cases named : inSet set i = true
  · rw [if_pos named, modifyAt, clearedIfNamed, if_pos named, modifyAt]
  · rw [if_neg named, modifyAt, clearedIfNamed, if_neg named, table_set_same]

theorem clearNamed_get (set : Word) (latches : Vector Latch 16) (i : Fin 16) :
    (clearNamed set latches)[i] = if set.getLsbD i.val = true then { latches[i] with pending := false } else latches[i] := by
  simp only [clearNamed, ← modifyAt_clearedIfNamed]
  rw [forEach_indexes_get]
  rfl

theorem writeMask_get (set : Word) (latches : Vector Latch 16) (i : Fin 16) :
    (writeMask set latches)[i] = { latches[i] with mask := set.getLsbD i.val } := by
  rw [writeMask, forEach_indexes_get fun i (l : Latch) => { l with mask := inSet set i }]
  rfl

/-- Settles O51: the search for the highest latch, the words of the latches, and the tables latch by latch. -/
theorem eventRequests : Obligations.EventRequests := by
  intro p rest s
  refine ⟨fun ready => ⟨fun idle => ?idle, fun i pending unmasked above => ?highest⟩, fun ready => ?state,
    fun ready => ⟨_, request_ok (body := bodyClearEvents) ready rfl, setLatches_keeps _ _, fun i => ?clears⟩,
    fun ready => ⟨_, request_ok (body := bodyWriteEventMask) ready rfl, setLatches_keeps _ _, fun i => ?masks⟩⟩
  case idle => exact request_ok ready (bodyReadEvent_none (s := takeRequest rest s) _ (highestLatch_none idle))
  case highest =>
    exact request_ok ready (bodyReadEvent_some (s := takeRequest rest s) _ (highestLatch_some pending unmasked above))
  case state =>
    rw [← eventStateWords_eq]
    exact request_ok (t := takeRequest rest s) ready rfl
  case clears =>
    rw [← requestOperands_getD p 0]
    exact clearNamed_get _ s.latches i
  case masks =>
    rw [← requestOperands_getD p 0]
    exact writeMask_get _ s.latches i

/-! ## READ_FAULT_RECORD and CLEAR_FAULTS (R171, R172) -/

theorem faultWords_empty {f : FaultRecord} (h : f.captured = none) :
    faultWords f =
      [0#32, flag f.minorHeld, flag f.majorHeld, flag f.double, 0#32, 0#32, 0#32, 0#32, 0#32, num f.mode.code] := by
  rw [faultWords, h]
  rfl

/-- R188: the fields of a captured fault are present together, but for the block, which has bit 3. -/
theorem faultWords_captured {f : FaultRecord} {c : CapturedFault} (h : f.captured = some c) :
    faultWords f =
      [if c.block.isSome then 0x1F#32 else 0x17#32, flag f.minorHeld, flag f.majorHeld, flag f.double, num c.kind.code,
       num c.source.code, num c.index, optNum c.block, c.tick, num f.mode.code] := by
  have presences (block : Bool) : presence [true, true, true, block, true] = if block then 0x1F#32 else 0x17#32 := by
    revert block
    decide
  rw [← presences, ← field_word c.tick, faultWords, h]
  rfl

/-- Settles O52: the words of the record with and without a captured fault; and the record emptied. -/
theorem faultRequests : Obligations.FaultRequests := by
  intro p rest s
  refine ⟨fun ready => ⟨fun empty => ?_, fun c captured => ?_⟩, fun ready => ?_⟩
  · rw [← faultWords_empty empty]
    exact request_ok (t := takeRequest rest s) ready rfl
  · rw [← faultWords_captured captured]
    exact request_ok (t := takeRequest rest s) ready rfl
  · exact request_ok (body := bodyClearFaults) ready rfl

end Sys2Proof.Machine
end

section
/-! PROOFS. The three resets and the hold (R18, R131, R143, R186). -/

namespace Sys2Proof.Machine

/-! ## Each reset's state -/

/-- R186: a power-on reset with a well-formed image holds the image as it was given. -/
theorem exec_powerOnReset {memsz : BitVec 2} {cells : List Host.Cell} {badBits : List Nat}
    (good : (Instr.powerOnReset memsz cells badBits).wellFormed = true) (s : State) :
    exec (.powerOnReset memsz cells badBits) s = .next (powerOn memsz cells badBits s) := by
  have canonical := Laws.Canonical.powerOnReset memsz cells badBits good
  simp only [canonicalOperands, Instr.powerOnReset.injEq, true_and] at canonical
  obtain ⟨sameCells, sameBits⟩ := canonical
  show Host.Outcome.next (powerOn memsz (canonicalCells cells) (canonicalBits badBits) s) = _
  rw [sameCells, sameBits]

/-- R186: RST_N goes low on a part that is not held. -/
theorem beginPinReset_running {s : State} (running : s.resetHeld = none) :
    beginPinReset s = { resetBlocks s with lastResetCause := .pin, resetHeld := some .pin } := by
  rw [beginPinReset, running]

/-- R186: a hold already begun goes on. -/
theorem beginPinReset_held {s : State} (held : s.resetHeld.isSome = true) : beginPinReset s = s := by
  obtain ⟨cause, hcause⟩ := Option.isSome_iff_exists.mp held
  rw [beginPinReset, hcause]

/-! ## The write that a reset abandons (R143) -/

section
variable {s : State}

theorem abandonedWrite_ingress {e : WriteEntry} {rest : List WriteEntry} (access : s.arbiter.access = some .ingress)
    (queue : s.writeQueue = e :: rest) : abandonedWrite s = some (64 * e.target, e.payload) := by
  rw [abandonedWrite, access, queue]

theorem abandonedWrite_mgmt {j : MemoryJob} (access : s.arbiter.access = some .mgmt) (waits : s.executor = .waitMemory j) :
    abandonedWrite s = j.data.map fun ws => (j.address, ws) := by
  rw [abandonedWrite, access, waits]

/-- R143: neither a refresh nor a slot's read is a write. -/
theorem abandonedWrite_none
    (access : s.arbiter.access = none ∨ s.arbiter.access = some .refresh ∨ ∃ k, s.arbiter.access = some (.egress k)) :
    abandonedWrite s = none := by
  obtain access | access | ⟨k, access⟩ := access
  all_goals rw [abandonedWrite, access]

end

/-! ## The hold (R186) -/

/-- R186: held in reset, the part takes no command but a reset's. -/
theorem exec_held {c : Instr} {s : State} (held : s.resetHeld.isSome = true)
    (notPowerOn : ∀ memsz cells bad, c ≠ .powerOnReset memsz cells bad) (notPinReset : ∀ memsz, c ≠ .pinReset memsz) :
    exec c s = .next s := by
  cases c with
  | powerOnReset memsz cells bad => exact absurd rfl (notPowerOn memsz cells bad)
  | pinReset memsz => exact absurd rfl (notPinReset memsz)
  | pinResetBegin => exact congrArg Host.Outcome.next (beginPinReset_held held)
  | writeCompletion | slotReadCompletion | managementAccessCompletion => exact if_pos held
  | _ => exact congrArg Host.Outcome.next (whileRunning_held held _)

/-- Settles O6: each reset's state, with what frame memory keeps of an abandoned write; then the hold. -/
theorem resetsComplete : Obligations.ResetsComplete := by
  refine ⟨fun memsz cells badBits s good => ⟨_, exec_powerOnReset good s⟩,
    ⟨fun s running => ?begin, fun s held => ?goesOn, fun memsz s => ?pin,
      fun s => ⟨fun e rest => abandonedWrite_ingress, fun j ws access waits data => ?writes,
        fun j access waits data => ?reads, abandonedWrite_none⟩⟩,
    fun c s => exec_held⟩
  case begin => exact ⟨_, _, congrArg Host.Outcome.next (beginPinReset_running running), keptMemory_spec s⟩
  case goesOn => exact congrArg Host.Outcome.next (beginPinReset_held held)
  case pin =>
    obtain ⟨_, untouched, abandoned⟩ := keptMemory_spec s
    refine ⟨_, _, rfl, rfl, fun whole => ?_, abandoned⟩
    rw [untouched whole]
    exact ⟨rfl, rfl⟩
  case writes | reads =>
    rw [abandonedWrite_mgmt access waits, data]
    rfl

end Sys2Proof.Machine
end

section
/-! PROOFS. The requests on the part and its ports (R12, R13, R183 to R185). -/

namespace Sys2Proof.Machine

/-! ## READ_IDENTITY and READ_PORTS (R183, R184) -/

theorem identityWords_eq (s : State) :
    identityWords s =
      [0x0A71#32, 0x3216#32, 1#32, num s.memory.blocks, num s.lastResetCause.code, s.reference.tickNumber,
       num s.faults.mode.code] := by
  rw [identityWords, field_word]
  rfl

/-- R184: the settings go out port by port. -/
theorem portWords_eq (s : State) :
    portWords s =
      (indexes 4).flatMap
          (fun q => [flag s.ingress[q].enabled, flag s.ingress[q].permission, num s.ingress[q].bitOrder.code]) ++
        (indexes 4).flatMap (fun q => [flag s.egress[q].enabled, num s.egress[q].bitOrder.code]) ++
        [num s.replyPort.val] := by
  rw [portWords, toList_eq_map_indexes, toList_eq_map_indexes, List.flatMap_map, List.flatMap_map]
  rfl

/-! ## The checks of WRITE_PORTS (R184) -/

/-- R184: every one of the twenty settings is one of its two values. -/
theorem settingsInRange_iff (ops : List Word) : settingsInRange ops = true ↔ ∀ i, i < 20 → operand ops i ≤ 1 := by
  simp only [settingsInRange, List.all_eq_true, decide_eq_true_eq, List.mem_take_iff_getElem, operand,
    List.getD_eq_getElem?_getD]
  constructor
  · intro all i low
    by_cases given : i < ops.length
    · rw [List.getElem?_eq_getElem given]
      exact all _ ⟨i, by omega, rfl⟩
    · rw [List.getElem?_eq_none (Nat.not_lt.mp given)]
      exact Nat.zero_le 1
  · rintro all _ ⟨i, low, rfl⟩
    have value := all i (by omega)
    rwa [List.getElem?_eq_getElem (by omega)] at value

theorem managementPortLeft_iff (ops : List Word) :
    managementPortLeft ops = true ↔ ∃ q : Fin 4, operand ops (3 * q.val) = 1 ∧ operand ops (3 * q.val + 1) = 1 := by
  simp only [managementPortLeft, List.any_eq_true, List.mem_range, Bool.and_eq_true, beq_iff_eq]
  exact ⟨fun ⟨i, low, both⟩ => ⟨⟨i, low⟩, both⟩, fun ⟨q, both⟩ => ⟨q.val, q.isLt, both⟩⟩

section
variable {ops : List Word} (s : State)

theorem bodyWritePorts_badSetting (bad : ∃ i, i < 20 ∧ 1 < operand ops i) : bodyWritePorts ops s = (s, .badArgument 1) := by
  have fails : settingsInRange ops = false := by
    rw [← Bool.not_eq_true, settingsInRange_iff]
    obtain ⟨i, low, high⟩ := bad
    exact fun all => absurd (all i low) (Nat.not_le.mpr high)
  exact checked_of_fails (by simp [firstFailure, fails]) s _

variable (settings : ∀ i, i < 20 → operand ops i ≤ 1)
include settings

theorem bodyWritePorts_badReplyPort (high : 3 < operand ops 20) : bodyWritePorts ops s = (s, .badArgument 2) := by
  have passes := (settingsInRange_iff ops).mpr settings
  have fails : decide (operand ops 20 ≤ 3) = false := decide_eq_false (Nat.not_le.mpr high)
  exact checked_of_fails (by simp [firstFailure, passes, fails]) s _

variable (port : operand ops 20 ≤ 3)
include port

theorem bodyWritePorts_noManagementPort
    (none_left : ∀ q : Fin 4, ¬(operand ops (3 * q.val) = 1 ∧ operand ops (3 * q.val + 1) = 1)) :
    bodyWritePorts ops s = (s, .badArgument 3) := by
  have passes := (settingsInRange_iff ops).mpr settings
  have fails : managementPortLeft ops = false := by
    rw [← Bool.not_eq_true, managementPortLeft_iff]
    exact fun ⟨q, both⟩ => none_left q both
  exact checked_of_fails (by simp [firstFailure, passes, port, fails]) s _

theorem bodyWritePorts_good (left : ∃ q : Fin 4, operand ops (3 * q.val) = 1 ∧ operand ops (3 * q.val + 1) = 1) :
    bodyWritePorts ops s = (writePortSettings ops s, .ok []) := by
  have passes := (settingsInRange_iff ops).mpr settings
  have kept := (managementPortLeft_iff ops).mpr left
  exact checked_of_good (by simp [firstFailure, passes, port, kept]) s _

end

/-! ## The settings in force (R12, R13) -/

theorem bitOrderOf_getD {code : Nat} (low : code ≤ 1) (before : BitOrder) :
    (bitOrderOf code).getD before = if code = 1 then .msbFirst else .lsbFirst := by
  match code with
  | 0 | 1 => rfl
  | _ + 2 => omega

section
variable {ops : List Word}

/-- R12, R13: the new settings of an ingress port, whose FIFO is emptied where the port is turned off. -/
theorem writeIngress_eq (i : Fin 4) (p : IngressPort) (low : operand ops (3 * i.val + 2) ≤ 1) :
    writeIngress ops i p =
      { enabled := decide (operand ops (3 * i.val) = 1)
        permission := decide (operand ops (3 * i.val + 1) = 1)
        bitOrder := if operand ops (3 * i.val + 2) = 1 then .msbFirst else .lsbFirst
        fifo := if p.enabled = true ∧ operand ops (3 * i.val) = 0 then [] else p.fifo } := by
  simp only [writeIngress, bitOrderOf_getD low, Bool.and_eq_true, beq_iff_eq]
  rfl

/-- R12: the new settings of an egress port. -/
theorem writeEgress_eq (i : Fin 4) (p : EgressPort) (low : operand ops (13 + 2 * i.val) ≤ 1) :
    writeEgress ops i p =
      { p with
        enabled := decide (operand ops (12 + 2 * i.val) = 1)
        bitOrder := if operand ops (13 + 2 * i.val) = 1 then .msbFirst else .lsbFirst } := by
  have place : 12 + 2 * i.val + 1 = 13 + 2 * i.val := by omega
  rw [writeEgress, place, bitOrderOf_getD low]
  rfl

theorem writePortSettings_ingress (s : State) (q : Fin 4) :
    (writePortSettings ops s).ingress[q] = writeIngress ops q s.ingress[q] :=
  forEach_indexes_get _ _ q

theorem writePortSettings_egress (s : State) (q : Fin 4) :
    (writePortSettings ops s).egress[q] = writeEgress ops q s.egress[q] :=
  forEach_indexes_get _ _ q

theorem writePortSettings_replyPort (s : State) (port : operand ops 20 ≤ 3) :
    (writePortSettings ops s).replyPort.val = operand ops 20 := by
  have named : indexOf 4 (operand ops 20) = some ⟨operand ops 20, Nat.lt_succ_of_le port⟩ := indexOf_eq_some rfl
  rw [writePortSettings, named]
  rfl

theorem freedDispatcher_pointer (s : State) : (freedDispatcher ops s).pointer = s.dispatcher.pointer := by
  unfold freedDispatcher
  split
  · rfl
  · split
    · rfl
    · rfl

theorem freedDispatcher_idle {s : State} (idle : s.dispatcher.waiting = none) :
    (freedDispatcher ops s).waiting = none := by
  rw [freedDispatcher, idle]
  exact idle

/-- R13: the dispatcher no longer waits with a burst of a port that is turned off. -/
theorem freedDispatcher_waiting {s : State} {q : Fin 4} (waits : s.dispatcher.waiting = some q) :
    (freedDispatcher ops s).waiting =
      if s.ingress[q].enabled = true ∧ operand ops (3 * q.val) = 0 then none else some q := by
  simp only [freedDispatcher, waits, Bool.and_eq_true, beq_iff_eq]
  split
  · rfl
  · exact waits

end

/-- Settles O42: the words returned by each read; WritePorts by its first failing check, else the settings port by port. -/
theorem partAndPortRequests : Obligations.PartAndPortRequests := by
  refine ⟨fun p rest s ready => ?identity, fun p rest s => ⟨fun ready => ?reset, fun ready => ?ports,
    fun ready => ⟨fun bad => ?setting, fun settings => ⟨fun high => ?replyPort, fun port noneLeft => ?management,
      fun port left => ?written⟩⟩⟩⟩
  case identity =>
    rw [← identityWords_eq]
    exact request_ok (t := takeRequest rest s) ready rfl
  case reset => exact request_ok (t := takeRequest rest s) ready rfl
  case ports =>
    rw [← portWords_eq]
    exact request_ok (t := takeRequest rest s) ready rfl
  case setting => exact request_badArgument ready (bodyWritePorts_badSetting _ bad)
  case replyPort => exact request_badArgument ready (bodyWritePorts_badReplyPort _ settings high)
  case management => exact request_badArgument ready (bodyWritePorts_noManagementPort _ settings port noneLeft)
  case written =>
    refine ⟨_, request_ok ready (bodyWritePorts_good _ settings port left), writePortSettings_keeps _ _, fun q => ?_,
      writePortSettings_replyPort _ port, freedDispatcher_pointer _, fun idle => freedDispatcher_idle idle,
      fun q waits => freedDispatcher_waiting waits⟩
    rw [writePortSettings_ingress, writePortSettings_egress, writeIngress_eq q _ (settings _ (by omega)),
      writeEgress_eq q _ (settings _ (by omega))]
    exact ⟨rfl, rfl, rfl, rfl, rfl⟩

end Sys2Proof.Machine
end

section
/-! PROOFS. The formats of requests, replies and status words (12.3 to 12.5), and the path of requests and replies through their
queues (R178, R179, R182, R185). -/

namespace Sys2Proof.Machine

/-! ## The request codes (12.3) -/

/-- 12.3: the operand counts as one table by the code; MemoryWrite's is not fixed, and 00h and codes above 21h name no request. -/
theorem fixedOperandCount_eq_getD (code : BitVec 8) :
    fixedOperandCount code =
      [none, some 0, some 0, some 0, some 21, some 1, some 14, some 1, some 1, some 1, some 1, some 1, some 10, some 1, some 0,
       some 5, some 0, some 4, some 2, none, some 1, some 2, some 1, some 0, some 0, some 1, some 1, some 0, some 0, some 6,
       some 0, some 5, some 1, some 0].getD code.toNat none := by
  unfold fixedOperandCount
  generalize code.toNat = n
  match n with
  | 0 | 1 | 2 | 3 | 4 | 5 | 6 | 7 | 8 | 9 | 10 | 11 | 12 | 13 | 14 | 15 | 16 | 17 | 18 | 19 | 20 | 21 | 22 | 23 | 24 | 25 | 26
  | 27 | 28 | 29 | 30 | 31 | 32 | 33 => rfl
  | _ + 34 => rfl

/-- 12.3: the requests as one table by the code. -/
theorem rowOfCode_eq_getD (code : BitVec 8) :
    rowOfCode code =
      [none, some .readIdentity, some .resetPart, some .readPorts, some .writePorts, some .readStreamEntry,
       some .writeStreamEntry, some .enableStream, some .disableStream, some .readStreamStatus, some .readRingStatus,
       some .readRouteEntry, some .writeRouteEntry, some .readSlotStatus, some .readReference, some .setReference,
       some .readArbitration, some .setArbitration, some .memoryRead, some .memoryWrite, some .snapshotCounters,
       some .readCounters, some .setCounterMode, some .readEvent, some .readEventState, some .clearEvents, some .writeEventMask,
       some .readFaultRecord, some .clearFaults, some .generatorStart, some .generatorStop, some .checkerSetup,
       some .checkerSnapshot, some .readTestStatus].getD code.toNat none := by
  unfold rowOfCode
  generalize code.toNat = n
  match n with
  | 0 | 1 | 2 | 3 | 4 | 5 | 6 | 7 | 8 | 9 | 10 | 11 | 12 | 13 | 14 | 15 | 16 | 17 | 18 | 19 | 20 | 21 | 22 | 23 | 24 | 25 | 26
  | 27 | 28 | 29 | 30 | 31 | 32 | 33 => rfl
  | _ + 34 => rfl

/-- 12.3, R179: the row of a request code runs the request of that code by its own rule. -/
theorem exec_rowOfCode {code : BitVec 8} {i : Instr} (h : rowOfCode code = some i) :
    ∃ body, ∀ s, exec i s = .next (whileRunning s (runRequest code body)) := by
  have own (n : Nat) (hn : code.toNat = n) : code = BitVec.ofNat 8 n := by rw [← hn, BitVec.ofNat_toNat, BitVec.setWidth_eq]
  unfold rowOfCode at h
  split at h
  all_goals cases h
  all_goals
    rename_i hn
    rw [own _ hn]
    exact ⟨_, fun _ => rfl⟩

/-! ## Fields placed one after another in a word (12.4, R188) -/

/-- R188: reading back the five fields of word 0 of a reply record. -/
theorem fields_of_replyWord0 (tag code : BitVec 8) (status : BitVec 4) (reason : BitVec 8) (reserved : BitVec 4) :
    let w := tag ++ code ++ status ++ reason ++ reserved
    w.extractLsb' 24 8 = tag ∧ w.extractLsb' 16 8 = code ∧ w.extractLsb' 12 4 = status ∧ w.extractLsb' 4 8 = reason ∧
      w.extractLsb' 0 4 = reserved := by
  refine ⟨?_, ?_, ?_, ?_, BitVec.extractLsb'_append_eq_right⟩
  · iterate 4 rw [BitVec.extractLsb'_append_eq_of_le (by decide)]
    exact BitVec.extractLsb'_eq_self
  · iterate 3 rw [BitVec.extractLsb'_append_eq_of_le (by decide)]
    exact BitVec.extractLsb'_append_eq_right
  · iterate 2 rw [BitVec.extractLsb'_append_eq_of_le (by decide)]
    exact BitVec.extractLsb'_append_eq_right
  · rw [BitVec.extractLsb'_append_eq_of_le (by decide)]
    exact BitVec.extractLsb'_append_eq_right

/-- R188: the layout of a reply record. -/
theorem replyWords_fields (r : Reply) : ∃ w0 w1, replyWords r = w0 :: w1 :: r.results ∧
    w0.extractLsb' 24 8 = r.tag ∧ w0.extractLsb' 16 8 = r.code ∧ w0.extractLsb' 12 4 = statusCode r.status ∧
    w0.extractLsb' 4 8 = BitVec.ofNat 8 r.reason ∧ w0.extractLsb' 0 4 = 0#4 ∧
    w1.extractLsb' 0 6 = BitVec.ofNat 6 r.results.length ∧ w1.extractLsb' 6 26 = 0#26 := by
  obtain ⟨tag, code, status, reason, reserved⟩ :=
    fields_of_replyWord0 r.tag r.code (statusCode r.status) (BitVec.ofNat 8 r.reason) 0#4
  exact ⟨_, _, rfl, tag, code, status, reason, reserved, BitVec.extractLsb'_append_eq_right,
    BitVec.extractLsb'_append_eq_left⟩

/-- 12.4: reading back the eleven fields of the first word of a buffer. -/
theorem fields_of_bufferWord0 (state : BitVec 3) (media : Bool) (holds : BitVec 5) (stamp sequence count last next frame : Bool)
    (reserved : BitVec 9) (tag : BitVec 8) :
    let w :=
      state ++ BitVec.ofBool media ++ holds ++ BitVec.ofBool stamp ++ BitVec.ofBool sequence ++ BitVec.ofBool count ++
        BitVec.ofBool last ++ BitVec.ofBool next ++ BitVec.ofBool frame ++ reserved ++ tag
    w.extractLsb' 29 3 = state ∧ w.getLsbD 28 = media ∧ w.extractLsb' 23 5 = holds ∧ w.getLsbD 17 = frame ∧
      w.getLsbD 18 = next ∧ w.getLsbD 19 = last ∧ w.getLsbD 20 = count ∧ w.getLsbD 21 = sequence ∧ w.getLsbD 22 = stamp ∧
      w.extractLsb' 8 9 = reserved ∧ w.extractLsb' 0 8 = tag := by
  refine ⟨?state, ?media, ?holds, ?frame, ?next, ?last, ?count, ?sequence, ?stamp, ?reserved,
    BitVec.extractLsb'_append_eq_right⟩
  case media | frame | next | last | count | sequence | stamp =>
    simp only [BitVec.getLsbD_append]
    simp
  case state =>
    iterate 10 rw [BitVec.extractLsb'_append_eq_of_le (by decide)]
    exact BitVec.extractLsb'_eq_self
  case holds =>
    iterate 8 rw [BitVec.extractLsb'_append_eq_of_le (by decide)]
    exact BitVec.extractLsb'_append_eq_right
  case reserved =>
    rw [BitVec.extractLsb'_append_eq_of_le (by decide)]
    exact BitVec.extractLsb'_append_eq_right

/-- 12.4: reading back three fields that fill a word. -/
theorem fields_of_three {a b c : Nat} (x : BitVec a) (y : BitVec b) (z : BitVec c) :
    (x ++ y ++ z).extractLsb' (b + c) a = x ∧ (x ++ y ++ z).extractLsb' c b = y ∧ (x ++ y ++ z).extractLsb' 0 c = z := by
  refine ⟨?_, ?_, BitVec.extractLsb'_append_eq_right⟩
  · rw [BitVec.extractLsb'_append_eq_of_le (Nat.le_add_left c b), Nat.add_sub_cancel]
    exact BitVec.extractLsb'_append_eq_left
  · rw [BitVec.extractLsb'_append_eq_of_le le_rfl, Nat.sub_self]
    exact BitVec.extractLsb'_append_eq_right

theorem bufferWords_fields (b : Buffer) : ∃ w0 w1 w2, bufferWords b = [w0, w1, w2, b.sequence.getD 0, b.stamp.getD 0] ∧
    w0.extractLsb' 29 3 = BitVec.ofNat 3 b.state.code ∧ w0.getLsbD 28 = b.mediaError ∧
    w0.extractLsb' 23 5 = BitVec.ofNat 5 b.holdCount ∧ w0.getLsbD 17 = b.sourceFrame.isSome ∧
    w0.getLsbD 18 = b.nextIndex.isSome ∧ w0.getLsbD 19 = b.lastWords.isSome ∧ w0.getLsbD 20 = b.burstCount.isSome ∧
    w0.getLsbD 21 = b.sequence.isSome ∧ w0.getLsbD 22 = b.stamp.isSome ∧ w0.extractLsb' 8 9 = 0#9 ∧
    w0.extractLsb' 0 8 = b.fillTag ∧
    w1.extractLsb' 16 16 = b.sourceFrame.getD 0 ∧ w1.extractLsb' 3 13 = BitVec.ofNat 13 (b.nextIndex.getD 0) ∧
    w1.extractLsb' 0 3 = 0#3 ∧
    w2.extractLsb' 19 13 = BitVec.ofNat 13 (b.burstCount.getD 0) ∧
    w2.extractLsb' 12 7 = BitVec.ofNat 7 (b.lastWords.getD 0) ∧ w2.extractLsb' 0 12 = 0#12 := by
  obtain ⟨state, media, holds, frame, next, last, count, sequence, stamp, reserved, tag⟩ :=
    fields_of_bufferWord0 (BitVec.ofNat 3 b.state.code) b.mediaError (BitVec.ofNat 5 b.holdCount) b.stamp.isSome
      b.sequence.isSome b.burstCount.isSome b.lastWords.isSome b.nextIndex.isSome b.sourceFrame.isSome 0#9 b.fillTag
  obtain ⟨sourceFrame, nextIndex, reserved1⟩ :=
    fields_of_three (b.sourceFrame.getD 0) (BitVec.ofNat 13 (b.nextIndex.getD 0)) 0#3
  obtain ⟨burstCount, lastWords, reserved2⟩ :=
    fields_of_three (BitVec.ofNat 13 (b.burstCount.getD 0)) (BitVec.ofNat 7 (b.lastWords.getD 0)) 0#12
  exact ⟨_, _, _, rfl, state, media, holds, frame, next, last, count, sequence, stamp, reserved, tag, sourceFrame, nextIndex,
    reserved1, burstCount, lastWords, reserved2⟩

/-! ## The form of a request (R178) -/

theorem operandCountGood_iff (p : List Word) :
    operandCountGood p = true ↔
      if requestCode p = 0x13#8 then
        2 ≤ requestCount p ∧ requestCount p ≤ 62 ∧ ((requestOperands p).getD 1 0).toNat + 2 = requestCount p
      else fixedOperandCount (requestCode p) = some (requestCount p) := by
  unfold operandCountGood memoryWriteCode
  split
  · simp only [Bool.and_eq_true, decide_eq_true_eq, beq_iff_eq, and_assoc]
  · exact beq_iff_eq

/-- R178: a good form is that of two header words with their reserved bits clear, and of as many operands as the code takes. -/
theorem formGood_iff (p : List Word) : formGood p = true ↔
    ∃ w0 w1 operands, p = w0 :: w1 :: operands ∧
      (if w0.extractLsb' 16 8 = 0x13#8 then
        2 ≤ (w1.extractLsb' 0 6).toNat ∧ (w1.extractLsb' 0 6).toNat ≤ 62 ∧
          (operands.getD 1 0).toNat + 2 = (w1.extractLsb' 0 6).toNat
       else fixedOperandCount (w0.extractLsb' 16 8) = some (w1.extractLsb' 0 6).toNat) ∧
      operands.length = (w1.extractLsb' 0 6).toNat ∧ w0.extractLsb' 0 16 = 0#16 ∧ w1.extractLsb' 6 26 = 0#26 := by
  have checks : formGood p = true ↔
      2 ≤ p.length ∧ operandCountGood p = true ∧ p.length = 2 + requestCount p ∧
        (p.getD 0 0).extractLsb' 0 16 = 0#16 ∧ (p.getD 1 0).extractLsb' 6 26 = 0#26 := by
    simp only [formGood, Bool.and_eq_true, decide_eq_true_eq, beq_iff_eq, and_assoc]
  rw [checks, operandCountGood_iff]
  constructor
  · rintro ⟨long, count, length, reserved0, reserved1⟩
    match p with
    | w0 :: w1 :: operands =>
      refine ⟨w0, w1, operands, rfl, count, ?_, reserved0, reserved1⟩
      change operands.length + 2 = 2 + (w1.extractLsb' 0 6).toNat at length
      omega
  · rintro ⟨w0, w1, operands, rfl, count, length, reserved0, reserved1⟩
    refine ⟨Nat.le_add_left 2 operands.length, count, ?_, reserved0, reserved1⟩
    show operands.length + 2 = 2 + (w1.extractLsb' 0 6).toNat
    omega

/-! ## The path of requests (R178, R179) -/

/-- R179: no request of the code given can be taken from the head of the queue. -/
def NotTaken (code : BitVec 8) (s : State) : Prop :=
  s.requestQueue = [] ∨ s.executor ≠ .idle ∨
    ∃ p rest, s.requestQueue = p :: rest ∧ (formGood p = false ∨ requestCode p ≠ code)

/-- R179, log entry 2: such a request's row changes nothing. -/
theorem runRequest_notTaken {code : BitVec 8} {s : State} (h : NotTaken code s) (body : RequestBody) :
    runRequest code body s = s := by
  rcases runRequest_cases code body s with same | ⟨p, rest, ⟨_, idle, queue, good, own⟩, _⟩
  · exact same
  · rcases h with empty | busy | ⟨p', rest', head, unfit⟩
    · exact nomatch queue.symm.trans empty
    · exact absurd idle busy
    · obtain ⟨rfl, rfl⟩ := List.cons.inj (queue.symm.trans head)
      rcases unfit with bad | other
      · exact absurd good (by rw [bad]; exact Bool.false_ne_true)
      · exact absurd own other

/-- R178: the head request is answered BAD_REQUEST where its form is bad. -/
theorem exec_badRequest {p : List Word} {rest : List (List Word)} {s : State} (running : s.resetHeld = none)
    (idle : s.executor = .idle) (queue : s.requestQueue = p :: rest) :
    exec .badRequest s = .next
      (if formGood p = true then s else offerReply (badRequestReply p) (takeRequest rest s)) := by
  have ready : executorIdle s = true := by rw [executorIdle, idle]
  refine congrArg Host.Outcome.next ((whileRunning_running running _).trans ?_)
  simp only [runBadRequest, queue, ready, Bool.true_and]
  cases formGood p with
  | true => rfl
  | false => rfl

/-! ## The path of replies (R182, R185) -/

theorem isResetPart_iff (r : Reply) : r.isResetPart = true ↔ r.code = 0x02#8 ∧ r.status = .ok := by
  rw [Reply.isResetPart, Bool.and_eq_true, beq_iff_eq, beq_iff_eq]

theorem offerReply_idle {s : State} {r : Reply} (room : s.replyQueue.length < 4) (other : r.isResetPart = false) :
    offerReply r s = { s with replyQueue := s.replyQueue ++ [r], executor := .idle } := by
  rw [offerReply_room r room, other]
  rfl

/-- R185: the reply to ResetPart leaves the executor EXECUTING. -/
theorem offerReply_resetPart {s : State} {r : Reply} (room : s.replyQueue.length < 4) (reset : r.isResetPart = true) :
    offerReply r s = { s with replyQueue := s.replyQueue ++ [r], executor := .executing } := by
  rw [offerReply_room r room, reset]
  rfl

/-- R182: REPLY_SPACE_FREED offers the waiting reply again. -/
theorem exec_replySpaceFreed {s : State} {r : Reply} (running : s.resetHeld = none) (waits : s.executor = .waitReplySpace r) :
    exec .replySpaceFreed s = .next (offerReply r s) := by
  have offered : queueWaitingReply s = offerReply r s := by rw [queueWaitingReply, waits]
  exact congrArg Host.Outcome.next ((whileRunning_running running _).trans offered)

theorem exec_replySpaceFreed_none {s : State} (noReply : ∀ r, s.executor ≠ .waitReplySpace r) :
    exec .replySpaceFreed s = .next s := by
  have unchanged : queueWaitingReply s = s := by
    unfold queueWaitingReply
    split
    · rename_i r waits
      exact absurd waits (noReply r)
    all_goals rfl
  exact congrArg Host.Outcome.next (whileRunning_unchanged unchanged)

/-! ## The statement -/

/-- Settles O41: the tables of codes, the words field by field, the reply queue by its room, and the head request by its form. -/
theorem requestsAndReplies : Obligations.RequestsAndReplies := by
  refine ⟨⟨fixedOperandCount_eq_getD, rowOfCode_eq_getD, fun p => ⟨rfl, rfl⟩, replyWords_fields⟩,
    ⟨⟨rfl, rfl, fun p => rfl, rfl⟩, ⟨rfl, rfl, rfl⟩, ⟨rfl, rfl, rfl, rfl, rfl⟩,
      ⟨rfl, rfl, rfl, rfl, fun k => rfl, rfl, rfl⟩, ⟨rfl, rfl, rfl, rfl⟩, rfl, rfl, rfl, rfl⟩,
    ⟨bufferWords_fields, fun c r => ⟨rfl, rfl, rfl⟩, fun u => rfl, ⟨rfl, fun a => rfl⟩,
      fun n w v => ⟨rfl, rfl, rfl, BitVec.setWidth_zero 32 w⟩⟩,
    fun r s => ⟨offerReply_idle, offerReply_resetPart, offerReply_full r, isResetPart_iff r,
      fun running waits => ⟨fun room other => ?joins, fun room reset => ?joinsReset, fun full => ?stillFull⟩,
      fun _ noReply => exec_replySpaceFreed_none noReply⟩,
    fun p rest s running idle queue => ⟨fun bad => ?bad, fun good => ?good⟩, formGood_iff,
    fun code i s row running notTaken => ?notTaken⟩
  case joins => rw [exec_replySpaceFreed running waits, offerReply_idle room other]
  case joinsReset => rw [exec_replySpaceFreed running waits, offerReply_resetPart room reset]
  case stillFull => rw [exec_replySpaceFreed running waits, offerReply_full r full, ← waits]
  case bad =>
    rw [exec_badRequest running idle queue, bad]
    rfl
  case good => rw [exec_badRequest running idle queue, if_pos good]
  case notTaken =>
    obtain ⟨body, run⟩ := exec_rowOfCode row
    rw [run, whileRunning_running running, runRequest_notTaken notTaken body]

end Sys2Proof.Machine
end

section
/-! PROOFS. The step on a queue that is not empty, and what every command answers: a next state that keeps each field outside
the command's list, or the one fault of frame memory (log entries 22 and 24). -/

namespace Sys2Proof.Machine

/-! ## The command at the front of the queue -/

theorem step_of_cons {c : Instr} {rest : List Instr} {s : State} (queue : s.pending = c :: rest) :
    step s = exec c { s with pending := rest } := by
  unfold step
  rw [queue]

/-- Settles O1: the front command is the branch of step that a queue of this form takes. -/
theorem stepRunsFrontCommand : Obligations.StepRunsFrontCommand := fun _ _ _ => step_of_cons

/-! ## The frame of a command -/

/-- Settles O4, by the frame of each command's work. -/
theorem commandFrames : Obligations.CommandFrames := fun _ _ _ => exec_keeps

/-! ## The answers of the memory completions (log entry 22) -/

/-- An outcome of a memory completion: a next state, or the fault of a block that frame memory does not have. -/
def AnswersOrNoBlock (o : Host.Outcome State Fault Refusal) : Prop := (∃ t, o = .next t) ∨ o = .fault .noSuchBlock

theorem answersOrNoBlock_next (t : State) : AnswersOrNoBlock (.next t) := .inl ⟨t, rfl⟩

/-- The end of an access is a next state where frame memory has its place. -/
theorem answersOrNoBlock_access (inside : Prop) [Decidable inside] (ended : State) :
    AnswersOrNoBlock (if inside then .next ended else .fault .noSuchBlock) := by
  by_cases place : inside
  · rw [if_pos place]
    exact answersOrNoBlock_next ended
  · rw [if_neg place]
    exact .inr rfl

theorem execWriteCompletion_answers (s : State) : AnswersOrNoBlock (execWriteCompletion s) := by
  unfold execWriteCompletion
  split
  · exact answersOrNoBlock_next s
  · split
    · exact answersOrNoBlock_next s
    · exact answersOrNoBlock_access _ _

theorem execSlotReadCompletion_answers (s : State) : AnswersOrNoBlock (execSlotReadCompletion s) := by
  unfold execSlotReadCompletion
  split
  · exact answersOrNoBlock_next s
  · split
    · exact answersOrNoBlock_next s
    · exact answersOrNoBlock_access _ _

theorem execManagementAccessCompletion_answers (s : State) : AnswersOrNoBlock (execManagementAccessCompletion s) := by
  unfold execManagementAccessCompletion
  split
  · exact answersOrNoBlock_next s
  · split
    · exact answersOrNoBlock_next s
    · exact answersOrNoBlock_access _ _

/-! ## The answers of every command -/

/-- The completions of the three kinds of access that carry an address into frame memory. -/
abbrev memoryCompletions : List Instr := [.writeCompletion, .slotReadCompletion, .managementAccessCompletion]

theorem exec_answersOrNoBlock {c : Instr} (completion : c ∈ memoryCompletions) (s : State) : AnswersOrNoBlock (exec c s) := by
  obtain rfl | rfl | rfl : c = .writeCompletion ∨ c = .slotReadCompletion ∨ c = .managementAccessCompletion := by
    simpa using completion
  · exact execWriteCompletion_answers s
  · exact execSlotReadCompletion_answers s
  · exact execManagementAccessCompletion_answers s

/-- The meaning of every other command is a function from states to states. -/
theorem exec_answers {c : Instr} (other : c ∉ memoryCompletions) (s : State) : ∃ t, exec c s = .next t := by
  cases c with
  | writeCompletion | slotReadCompletion | managementAccessCompletion => exact absurd (by simp) other
  | _ => exact ⟨_, rfl⟩

/-- Settles O3: a memory completion ends its access or finds no block; every other command has a next state. -/
theorem commandsAlwaysAnswer : Obligations.CommandsAlwaysAnswer := by
  intro c s
  by_cases completion : c ∈ memoryCompletions
  · exact (exec_answersOrNoBlock completion s).imp_right fun noBlock => ⟨completion, noBlock⟩
  · exact .inl (exec_answers completion s)

end Sys2Proof.Machine
end
